-- ==== Sys2Proof/Word.lean ====
section
/-! DEFINITION. The widths of the block (R6): bytes, VRAM addresses, command words, response codes and response data. -/

namespace Sys2Proof

/-- A port register, a memory byte or an 8-bit operand (R6, R94). -/
abbrev Byte := BitVec 8

/-- A VRAM address (R6, R28). -/
abbrev Addr := BitVec 16

/-- A command word `cmd[47:0]` (R90). -/
abbrev CmdWord := BitVec 48

/-- A response code (R96). -/
abbrev RespCode := BitVec 4

/-- Response data (R96). -/
abbrev RespData := BitVec 32

end Sys2Proof
end

