-- ==== Sys2Proof/Syntax.lean ====
section
/-! DEFINITION. The 27 host commands (R93), the five pseudo-commands (R103), and the actions of the other agents (R9). -/

namespace Sys2Proof

/-- The host commands, one constructor per row of the opcode map (R93); operands as in R94. -/
inductive Instr where
  | wrctrl1 (d : Byte)
  | wrctrl2 (d : Byte)
  | wroamaddr (d : Byte)
  | wroamdata (d : Byte)
  | wrscroll (d : Byte)
  | wraddr (d : Byte)
  | wrdata (d : Byte)
  | rdctrl1
  | rdctrl2
  | rdstatus
  | rdoamaddr
  | rdoamdata
  | rdscroll
  | rdaddr
  | enq (addr : Addr) (d : Byte)
  | rdqlen
  | setnctrl1 (d : Byte)
  | setnctrl2 (d : Byte)
  | setnscroll (hi lo : Byte)
  | setscrdis (d : Byte)
  | cbret (d : Byte)
  | rderr
  | rdfsc
  | sprset (idx x y tile attr : Byte)
  | sprclr
  | sprget (idx : Byte)
  | reinit
  deriving DecidableEq, Repr

/-- The payload formats of R91. -/
inductive Format where
  | n | b | p | q | i | s
  deriving DecidableEq, Repr

/-- The events of the video timing source (R190, R192, R193). -/
inductive VideoEvent where
  | vblank
  | spr0 (b : Bool)
  | ovf (b : Bool)
  deriving DecidableEq, Repr

/-- The events of the supervisor (R194, R221). -/
inductive SupervisorEvent where
  | shutdown
  | reset
  deriving DecidableEq, Repr

/-- The internal steps of the frame-sync controller (R195, R196). -/
inductive FscStep where
  | tickStart
  | stop
  deriving DecidableEq, Repr

/-- One transition asked for by one agent, a constructor per agent class (R9). The arbiter takes no step of its own. -/
inductive Action where
  | host (cmd : CmdWord)
  | video (e : VideoEvent)
  | supervisor (e : SupervisorEvent)
  | fsc (k : FscStep)
  deriving DecidableEq, Repr

/-- The pseudo-commands of R103, which have no encoding. -/
inductive Pseudo where
  | setscroll (x y : Byte)
  | setaddr (a : Addr)
  | sprhide (idx : Byte)
  | setctrl1 (b : Byte)
  | setctrl2 (b : Byte)
  deriving DecidableEq, Repr

/-- The real commands a pseudo-command stands for (R103), given the parameter `OFFSCREEN_Y`. -/
def Pseudo.expand (offscreenY : Byte) : Pseudo → List Instr
  | .setscroll x y => [.rdstatus, .wrscroll x, .wrscroll y]
  | .setaddr a => [.rdstatus, .wraddr (a.extractLsb' 8 8), .wraddr (a.extractLsb' 0 8)]
  | .sprhide idx => [.sprset idx 0#8 offscreenY 0#8 0#8]
  | .setctrl1 b => [.setnctrl1 b, .wrctrl1 b]
  | .setctrl2 b => [.setnctrl2 b, .wrctrl2 b]

/-- A line of a command script before it is assembled (R102): the mnemonic and its operands as numbers. -/
structure Line where
  mnemonic : String
  operands : List Nat
  deriving DecidableEq, Repr

end Sys2Proof
end

