-- ==== Sys2Proof/WellFormed.lean ====
section
/-! DEFINITION. Which words are commands, by mask and match (R92, R100), and which script lines are (R93, R94, R102).
A term of `Instr` needs no check: the types of its operands are the widths of R94. -/

namespace Sys2Proof

/-- The mask of a format: ones at the opcode and the must-be-zero bits (R92). -/
def Format.mask : Format → CmdWord
  | .n => 0xFFFFFFFFFFFF#48
  | .b => 0xFFFFFFFFFF00#48
  | .p => 0xFFFFFFFF0000#48
  | .q => 0xFFFFFF000000#48
  | .i => 0xFF00FFFFFFFF#48
  | .s => 0xFF0000000000#48

/-- A row of the opcode map (R93): `bounds` holds, for each operand of the mnemonic's script syntax, the first
number too large for it: one more than the largest value R94 gives the field. -/
structure OpRow where
  op : Byte
  mnemonic : String
  format : Format
  bounds : List Nat
  deriving DecidableEq, Repr

/-- The match of a row: its opcode shifted left by 40 (R92). -/
def OpRow.pattern (r : OpRow) : CmdWord := r.op.setWidth 48 <<< 40

/-- The port rows of the opcode map (R93). -/
def opcodeMapPorts : List OpRow :=
  [⟨0x00#8, "WRCTRL1", .b, [256]⟩, ⟨0x01#8, "WRCTRL2", .b, [256]⟩, ⟨0x03#8, "WROAMADDR", .b, [256]⟩,
   ⟨0x04#8, "WROAMDATA", .b, [256]⟩, ⟨0x05#8, "WRSCROLL", .b, [256]⟩, ⟨0x06#8, "WRADDR", .b, [256]⟩,
   ⟨0x07#8, "WRDATA", .b, [256]⟩, ⟨0x10#8, "RDCTRL1", .n, []⟩, ⟨0x11#8, "RDCTRL2", .n, []⟩,
   ⟨0x12#8, "RDSTATUS", .n, []⟩, ⟨0x13#8, "RDOAMADDR", .n, []⟩, ⟨0x14#8, "RDOAMDATA", .n, []⟩,
   ⟨0x15#8, "RDSCROLL", .n, []⟩, ⟨0x16#8, "RDADDR", .n, []⟩]

/-- The opcode map (R93), 27 rows. -/
def opcodeMap : List OpRow :=
  opcodeMapPorts ++
  [⟨0x20#8, "ENQ", .q, [65536, 256]⟩, ⟨0x21#8, "RDQLEN", .n, []⟩, ⟨0x30#8, "SETNCTRL1", .b, [256]⟩,
   ⟨0x31#8, "SETNCTRL2", .b, [256]⟩, ⟨0x32#8, "SETNSCROLL", .p, [256, 256]⟩, ⟨0x33#8, "SETSCRDIS", .b, [256]⟩,
   ⟨0x34#8, "CBRET", .b, [256]⟩, ⟨0x35#8, "RDERR", .n, []⟩, ⟨0x36#8, "RDFSC", .n, []⟩,
   ⟨0x40#8, "SPRSET", .s, [256, 256, 256, 256, 256]⟩, ⟨0x41#8, "SPRCLR", .n, []⟩, ⟨0x42#8, "SPRGET", .i, [256]⟩,
   ⟨0x7F#8, "REINIT", .n, []⟩]

/-- A word is the command of a row iff `(cmd & mask) = match` (R92). -/
def OpRow.accepts (r : OpRow) (w : CmdWord) : Bool := (w &&& r.format.mask) == r.pattern

/-- A word is a command iff it is the command of some row; otherwise it is illegal (R100). -/
def legalWord (w : CmdWord) : Bool := opcodeMap.any (·.accepts w)

/-- A script line names a command and gives as many operands as it takes (R102), and each fits its field. R102 sets no
bound on the number written; that a line with a larger one is refused, and not masked to the width of R94, is the
model's choice (DESIGN CHOICE, log entry 16). -/
def Line.wellFormed (l : Line) : Bool :=
  opcodeMap.any fun r =>
    r.mnemonic == l.mnemonic && r.bounds.length == l.operands.length && (l.operands.zip r.bounds).all fun p => p.1 < p.2

end Sys2Proof
end

