-- ==== Sys2Proof/Decode.lean ====
section
/-! DEFINITION. The decoder of command words, total and rejecting by name (R91 to R94, R100, R101), the encoder, the
six-byte serialisation (R67), and the assembler of script lines (R102). -/

namespace Sys2Proof

/-- Why a word or a byte sequence is not a command (R100). -/
inductive DecodeError where
  /-- The opcode is none of the 27 of R93 (R101). -/
  | reservedOpcode (op : Byte)
  /-- A must-be-zero bit of the opcode's format is 1. -/
  | mustBeZero (cmd : CmdWord)
  /-- Fewer than six bytes are left to read a word from. -/
  | truncated
  deriving DecidableEq, Repr

/-- Format N: no operand. -/
def formatN (w : CmdWord) (i : Instr) : Except DecodeError Instr :=
  if w.extractLsb' 0 40 = 0#40 then .ok i else .error (.mustBeZero w)

/-- Format B: one byte in bits 7:0. -/
def formatB (w : CmdWord) (k : Byte → Instr) : Except DecodeError Instr :=
  if w.extractLsb' 8 32 = 0#32 then .ok (k (w.extractLsb' 0 8)) else .error (.mustBeZero w)

/-- Format P: `hi` in bits 15:8, `lo` in bits 7:0. -/
def formatP (w : CmdWord) (k : Byte → Byte → Instr) : Except DecodeError Instr :=
  if w.extractLsb' 16 24 = 0#24 then .ok (k (w.extractLsb' 8 8) (w.extractLsb' 0 8)) else .error (.mustBeZero w)

/-- Format Q: `addr` in bits 23:8, `d` in bits 7:0. -/
def formatQ (w : CmdWord) (k : Addr → Byte → Instr) : Except DecodeError Instr :=
  if w.extractLsb' 24 16 = 0#16 then .ok (k (w.extractLsb' 8 16) (w.extractLsb' 0 8)) else .error (.mustBeZero w)

/-- Format I: `idx` in bits 39:32. -/
def formatI (w : CmdWord) (k : Byte → Instr) : Except DecodeError Instr :=
  if w.extractLsb' 0 32 = 0#32 then .ok (k (w.extractLsb' 32 8)) else .error (.mustBeZero w)

/-- Format S: `idx`, `x`, `y`, `tile`, `attr` from bit 39 down; it has no must-be-zero bit. -/
def formatS (w : CmdWord) (k : Byte → Byte → Byte → Byte → Byte → Instr) : Except DecodeError Instr :=
  .ok (k (w.extractLsb' 32 8) (w.extractLsb' 24 8) (w.extractLsb' 16 8) (w.extractLsb' 8 8) (w.extractLsb' 0 8))

/-- The opcode of a word, `cmd[47:40]` (R91). -/
def opcodeField (w : CmdWord) : Byte := w.extractLsb' 40 8

/-- The decoder: the opcode picks the command and its format (R93), the format's must-be-zero bits are checked (R100),
and the operands are copied out (R94). -/
def decode (w : CmdWord) : Except DecodeError Instr :=
  match opcodeField w with
  | 0x00#8 => formatB w .wrctrl1
  | 0x01#8 => formatB w .wrctrl2
  | 0x03#8 => formatB w .wroamaddr
  | 0x04#8 => formatB w .wroamdata
  | 0x05#8 => formatB w .wrscroll
  | 0x06#8 => formatB w .wraddr
  | 0x07#8 => formatB w .wrdata
  | 0x10#8 => formatN w .rdctrl1
  | 0x11#8 => formatN w .rdctrl2
  | 0x12#8 => formatN w .rdstatus
  | 0x13#8 => formatN w .rdoamaddr
  | 0x14#8 => formatN w .rdoamdata
  | 0x15#8 => formatN w .rdscroll
  | 0x16#8 => formatN w .rdaddr
  | 0x20#8 => formatQ w .enq
  | 0x21#8 => formatN w .rdqlen
  | 0x30#8 => formatB w .setnctrl1
  | 0x31#8 => formatB w .setnctrl2
  | 0x32#8 => formatP w .setnscroll
  | 0x33#8 => formatB w .setscrdis
  | 0x34#8 => formatB w .cbret
  | 0x35#8 => formatN w .rderr
  | 0x36#8 => formatN w .rdfsc
  | 0x40#8 => formatS w .sprset
  | 0x41#8 => formatN w .sprclr
  | 0x42#8 => formatI w .sprget
  | 0x7F#8 => formatN w .reinit
  | op => .error (.reservedOpcode op)

/-- A field of a word: `v` with its bit 0 at bit `lo` (R7, R91). -/
def field {n : Nat} (v : BitVec n) (lo : Nat) : CmdWord := v.setWidth 48 <<< lo

/-- A word of format N (R91). -/
def wordN (op : Byte) : CmdWord := field op 40

/-- A word of format B (R91). -/
def wordB (op d : Byte) : CmdWord := field op 40 ||| field d 0

/-- A word of format P (R91). -/
def wordP (op hi lo : Byte) : CmdWord := field op 40 ||| field hi 8 ||| field lo 0

/-- A word of format Q (R91). -/
def wordQ (op : Byte) (addr : Addr) (d : Byte) : CmdWord := field op 40 ||| field addr 8 ||| field d 0

/-- A word of format I (R91). -/
def wordI (op idx : Byte) : CmdWord := field op 40 ||| field idx 32

/-- A word of format S (R91). -/
def wordS (op idx x y tile attr : Byte) : CmdWord :=
  field op 40 ||| field idx 32 ||| field x 24 ||| field y 16 ||| field tile 8 ||| field attr 0

/-- The encoder: the word of a command (R91, R93). -/
def encode : Instr → CmdWord
  | .wrctrl1 d => wordB 0x00#8 d
  | .wrctrl2 d => wordB 0x01#8 d
  | .wroamaddr d => wordB 0x03#8 d
  | .wroamdata d => wordB 0x04#8 d
  | .wrscroll d => wordB 0x05#8 d
  | .wraddr d => wordB 0x06#8 d
  | .wrdata d => wordB 0x07#8 d
  | .rdctrl1 => wordN 0x10#8
  | .rdctrl2 => wordN 0x11#8
  | .rdstatus => wordN 0x12#8
  | .rdoamaddr => wordN 0x13#8
  | .rdoamdata => wordN 0x14#8
  | .rdscroll => wordN 0x15#8
  | .rdaddr => wordN 0x16#8
  | .enq addr d => wordQ 0x20#8 addr d
  | .rdqlen => wordN 0x21#8
  | .setnctrl1 d => wordB 0x30#8 d
  | .setnctrl2 d => wordB 0x31#8 d
  | .setnscroll hi lo => wordP 0x32#8 hi lo
  | .setscrdis d => wordB 0x33#8 d
  | .cbret d => wordB 0x34#8 d
  | .rderr => wordN 0x35#8
  | .rdfsc => wordN 0x36#8
  | .sprset idx x y tile attr => wordS 0x40#8 idx x y tile attr
  | .sprclr => wordN 0x41#8
  | .sprget idx => wordI 0x42#8 idx
  | .reinit => wordN 0x7F#8

/-- The six bytes of a word, the one holding the opcode first (R67, D5). -/
def bytesOfWord (w : CmdWord) : List Byte :=
  [w.extractLsb' 40 8, w.extractLsb' 32 8, w.extractLsb' 24 8, w.extractLsb' 16 8, w.extractLsb' 8 8, w.extractLsb' 0 8]

/-- One word from the front of a byte sequence, and the rest (R67, D5). -/
def wordOfBytes : List Byte → Except DecodeError (CmdWord × List Byte)
  | b5 :: b4 :: b3 :: b2 :: b1 :: b0 :: rest => .ok (field b5 40 ||| field b4 32 ||| field b3 24 ||| field b2 16 ||| field b1 8 ||| field b0 0, rest)
  | _ => .error .truncated

/-- The decoder on bytes: one command from the front of a byte sequence, and the rest. -/
def decodeBytes (bs : List Byte) : Except DecodeError (Instr × List Byte) :=
  match wordOfBytes bs with
  | .error e => .error e
  | .ok (w, rest) =>
    match decode w with
    | .error e => .error e
    | .ok i => .ok (i, rest)

/-- The command word that a number stands for, its bits numbered as the opcode table numbers them: `cmd[47:0]`, every
bit from `nbits` up being 0. A number that does not fit 48 bits is no word (log entry 12). -/
def tableWord (nbits w : Nat) : Option CmdWord :=
  if w % 2 ^ nbits < 2 ^ 48 then some (BitVec.ofNat 48 (w % 2 ^ nbits)) else none

/-- The command the decoder reads from a word numbered as the opcode table numbers it. -/
def decodeTableWord (nbits w : Nat) : Option Instr :=
  match tableWord nbits w with
  | none => none
  | some cmd =>
    match decodeBytes (bytesOfWord cmd) with
    | .ok (i, _) => some i
    | .error _ => none

/-- A byte operand of a script line. -/
def byteOperand (n : Nat) : Byte := BitVec.ofNat 8 n

/-- The assembler of script lines: the mnemonic of R93, then its operands in the order of R93's column (R102). A line
that is not well formed, an operand too large for its field among the reasons (log entry 16), is no command. -/
def assemble (l : Line) : Option Instr :=
  if l.wellFormed then
    match l.mnemonic, l.operands with
    | "WRCTRL1", [d] => some (.wrctrl1 (byteOperand d))
    | "WRCTRL2", [d] => some (.wrctrl2 (byteOperand d))
    | "WROAMADDR", [d] => some (.wroamaddr (byteOperand d))
    | "WROAMDATA", [d] => some (.wroamdata (byteOperand d))
    | "WRSCROLL", [d] => some (.wrscroll (byteOperand d))
    | "WRADDR", [d] => some (.wraddr (byteOperand d))
    | "WRDATA", [d] => some (.wrdata (byteOperand d))
    | "RDCTRL1", [] => some .rdctrl1
    | "RDCTRL2", [] => some .rdctrl2
    | "RDSTATUS", [] => some .rdstatus
    | "RDOAMADDR", [] => some .rdoamaddr
    | "RDOAMDATA", [] => some .rdoamdata
    | "RDSCROLL", [] => some .rdscroll
    | "RDADDR", [] => some .rdaddr
    | "ENQ", [a, d] => some (.enq (BitVec.ofNat 16 a) (byteOperand d))
    | "RDQLEN", [] => some .rdqlen
    | "SETNCTRL1", [d] => some (.setnctrl1 (byteOperand d))
    | "SETNCTRL2", [d] => some (.setnctrl2 (byteOperand d))
    | "SETNSCROLL", [x, y] => some (.setnscroll (byteOperand x) (byteOperand y))
    | "SETSCRDIS", [d] => some (.setscrdis (byteOperand d))
    | "CBRET", [d] => some (.cbret (byteOperand d))
    | "RDERR", [] => some .rderr
    | "RDFSC", [] => some .rdfsc
    | "SPRSET", [i, x, y, t, a] =>
        some (.sprset (byteOperand i) (byteOperand x) (byteOperand y) (byteOperand t) (byteOperand a))
    | "SPRCLR", [] => some .sprclr
    | "SPRGET", [i] => some (.sprget (byteOperand i))
    | "REINIT", [] => some .reinit
    | _, _ => none
  else none

/-- The script line of a command (R102). -/
def disassemble : Instr → Line
  | .wrctrl1 d => ⟨"WRCTRL1", [d.toNat]⟩
  | .wrctrl2 d => ⟨"WRCTRL2", [d.toNat]⟩
  | .wroamaddr d => ⟨"WROAMADDR", [d.toNat]⟩
  | .wroamdata d => ⟨"WROAMDATA", [d.toNat]⟩
  | .wrscroll d => ⟨"WRSCROLL", [d.toNat]⟩
  | .wraddr d => ⟨"WRADDR", [d.toNat]⟩
  | .wrdata d => ⟨"WRDATA", [d.toNat]⟩
  | .rdctrl1 => ⟨"RDCTRL1", []⟩
  | .rdctrl2 => ⟨"RDCTRL2", []⟩
  | .rdstatus => ⟨"RDSTATUS", []⟩
  | .rdoamaddr => ⟨"RDOAMADDR", []⟩
  | .rdoamdata => ⟨"RDOAMDATA", []⟩
  | .rdscroll => ⟨"RDSCROLL", []⟩
  | .rdaddr => ⟨"RDADDR", []⟩
  | .enq a d => ⟨"ENQ", [a.toNat, d.toNat]⟩
  | .rdqlen => ⟨"RDQLEN", []⟩
  | .setnctrl1 d => ⟨"SETNCTRL1", [d.toNat]⟩
  | .setnctrl2 d => ⟨"SETNCTRL2", [d.toNat]⟩
  | .setnscroll x y => ⟨"SETNSCROLL", [x.toNat, y.toNat]⟩
  | .setscrdis d => ⟨"SETSCRDIS", [d.toNat]⟩
  | .cbret d => ⟨"CBRET", [d.toNat]⟩
  | .rderr => ⟨"RDERR", []⟩
  | .rdfsc => ⟨"RDFSC", []⟩
  | .sprset i x y t a => ⟨"SPRSET", [i.toNat, x.toNat, y.toNat, t.toNat, a.toNat]⟩
  | .sprclr => ⟨"SPRCLR", []⟩
  | .sprget i => ⟨"SPRGET", [i.toNat]⟩
  | .reinit => ⟨"REINIT", []⟩

end Sys2Proof
end

