-- ==== Sys2Proof/Config.lean ====
section
/-! DEFINITION. The parameter record of R4 with its constraints (R5), and the free values the spec leaves open (U1). -/

namespace Sys2Proof

/-- When a flush is legal (R4, R144). -/
inductive FlushPolicy where
  | renderOffOrVblank
  | always
  deriving DecidableEq, Repr

/-- The parameter record (R4), fixed before reset is released. -/
structure Config where
  /-- `QCAP`, capacity of the update queue. -/
  qcap : Nat
  /-- `NSPRITES`, number of sprite slots. -/
  nsprites : Nat
  /-- `OFFSCREEN_Y`, the off-screen sentinel (R173). -/
  offscreenY : Byte
  /-- `NT_BASE`, VRAM address of NametableMemory position 0. -/
  ntBase : Addr
  /-- `NT_SIZE`, bytes of NametableMemory. -/
  ntSize : Nat
  /-- `AT_BASE`, VRAM address of AttributeMemory position 0. -/
  atBase : Addr
  /-- `AT_SIZE`, bytes of AttributeMemory. -/
  atSize : Nat
  /-- `INC_BIT`, the bit of CTRL1 that selects the increment. -/
  incBit : Fin 8
  /-- `INC_LO`, the increment when that bit is 0. -/
  incLo : Nat
  /-- `INC_HI`, the increment when that bit is 1. -/
  incHi : Nat
  /-- `NMI_BIT`, the NMI-enable bit of CTRL1. -/
  nmiBit : Fin 8
  /-- `NMI_GATE`, whether that bit gates the wake-up. -/
  nmiGate : Bool
  /-- `REND_MASK`, the bits of CTRL2 that enable rendering. -/
  rendMask : Byte
  /-- `FLUSH_POLICY` (R144). -/
  flushPolicy : FlushPolicy
  deriving DecidableEq, Repr

/-- The constraints of R5: a record that breaks one is the source's ConfigurationError, and no machine exists. -/
abbrev Config.Valid (c : Config) : Prop :=
  1 ≤ c.qcap ∧ 1 ≤ c.nsprites ∧ c.nsprites ≤ 256 ∧ 240 ≤ c.offscreenY.toNat ∧ 2 ≤ c.ntSize ∧ 1 ≤ c.atSize ∧
  c.ntBase.toNat + c.ntSize ≤ 0x10000 ∧ c.atBase.toNat + c.atSize ≤ 0x10000 ∧
  (c.ntBase.toNat + c.ntSize ≤ c.atBase.toNat ∨ c.atBase.toNat + c.atSize ≤ c.ntBase.toNat) ∧
  c.incBit ≠ c.nmiBit ∧ c.incLo < 0x10000 ∧ c.incHi < 0x10000

/-- The defaults of R4. -/
def Config.default : Config where
  qcap := 64
  nsprites := 64
  offscreenY := 0xF8#8
  ntBase := 0x2000#16
  ntSize := 0x3C0
  atBase := 0x23C0#16
  atSize := 0x40
  incBit := 2
  incLo := 1
  incHi := 32
  nmiBit := 7
  nmiGate := true
  rendMask := 0x18#8
  flushPolicy := .renderOffOrVblank

/-- FREE VALUE (U1, D31): the byte NametableMemory position `i` holds after reset number `n`, until it is written.
DESIGN CHOICE of form, log entry 8. -/
opaque Config.freeNt (n i : Nat) : Byte

/-- FREE VALUE (U1, D31): the byte AttributeMemory position `i` holds after reset number `n`, until it is written.
DESIGN CHOICE of form, log entry 8. -/
opaque Config.freeAt (n i : Nat) : Byte

/-- FREE VALUE (U1, D31): the byte sprite cell `i` (four times the slot plus the field) holds after reset number `n`,
until it is written. DESIGN CHOICE of form, log entry 8. -/
opaque Config.freeSpr (n i : Nat) : Byte

end Sys2Proof
end

