-- ==== Sys2Proof/Machine/State.lean ====
section
/-! DEFINITION. The state of the block (10_state.md), the reasons a step can stop, and the state after reset (R44). -/

namespace Sys2Proof.Machine

/-- The state of the frame-sync controller (R38). -/
inductive Fsc where
  | waitingForSync
  | runningTick
  | stopped
  deriving DecidableEq, Repr

/-- One entry of the VRAM update queue (R32). -/
structure Entry where
  addr : Addr
  data : Byte
  deriving DecidableEq, Repr

/-- One response on the command port (R96). -/
structure Resp where
  code : RespCode
  data : RespData
  deriving DecidableEq, Repr

/-- The bytes written since the last reset: (cell, byte) pairs, cells strictly rising (`Memory.wf`). A cell that is not
listed reads as its free byte of that reset (U1), so no listed byte is what an unlisted cell reads as by definition. -/
abbrev Memory := List Host.Cell

/-- A step stops because nothing more can happen (R207): no input is left and no step of the FSC is enabled. Each is
safe: the block itself only waits, and a run with further inputs is a run of another list. Raised by `idle`. -/
inductive Fault where
  /-- `FSC = WaitingForSync`, `PEND = 0`, `SHUT_REQ = 0`: the FSC waits for a vblank that does not come (R202, R206, R207).
  Safe. Raised by `idle`. -/
  | waitingForVblank
  /-- `FSC = RunningTick`: the host never issues `CBRET` (R207, U13). Safe. Raised by `idle`. -/
  | callbackNotReturned
  /-- `FSC = Stopped`: the loop has exited and only a reset would leave it (R196, U14). Safe. Raised by `idle`. -/
  | loopStopped
  deriving DecidableEq, Repr

/-- A step is refused because the spec gives no such step. Each is safe: nothing follows from a refused step. -/
inductive Refusal where
  /-- An instruction that has no meaning yet. Raised by the arms of `exec` only. Safe. -/
  | notModelled (mnemonic : String)
  /-- The parameter record breaks R5 (ConfigurationError, R183, U12): no machine exists. Safe. Raised by `step`. -/
  | configurationError
  /-- The inputs ask for a step of the FSC that is not enabled (R195, R196): it does not exist. Safe. Raised by
  `runFsc`. -/
  | stepNotEnabled (k : FscStep)
  deriving DecidableEq, Repr

/-- The state of the block (10_state.md), with its parameter record, its inputs, its outputs and the index of its free
bytes (INVENTORY.md, State). The block has no timer, no cycle, time or frame counter and no compare register (R202): time
enters only as the event `EV_VBLANK`. -/
structure State where
  /-- The parameter record (R4), which no step changes (log entry 6). -/
  cfg : Config
  /-- `CTRL1` (R22). -/
  ctrl1 : Byte
  /-- `CTRL2` (R23). -/
  ctrl2 : Byte
  /-- The cell of `STATUS` (R24); it is read through `State.statusByte`. -/
  status : Byte
  /-- `OAMADDR` (R25). -/
  oamAddr : Byte
  /-- `OAMDATA` (R26). -/
  oamData : Byte
  /-- `SCROLL_X` (R27). -/
  scrollX : Byte
  /-- `SCROLL_Y` (R27). -/
  scrollY : Byte
  /-- `VADDR` (R28). -/
  vaddr : Addr
  /-- `W`, the write toggle (R30): `false` is its initial value 0. -/
  w : Bool
  /-- `Q`, the VRAM update queue, oldest entry first (R32). -/
  queue : List Entry
  /-- `SPR`, the sprite table (R33): cell `4 * slot + field`, fields x, y, tile, attr in that order (log entry 10). -/
  sprMem : Memory
  /-- `NEXT_CTRL1` (R34). -/
  nextCtrl1 : Byte
  /-- `NEXT_CTRL2` (R34). -/
  nextCtrl2 : Byte
  /-- `NEXT_SCROLL_X` (R34). -/
  nextScrollX : Byte
  /-- `NEXT_SCROLL_Y` (R34). -/
  nextScrollY : Byte
  /-- `NT`, NametableMemory (R35), by position. -/
  ntMem : Memory
  /-- `AT`, AttributeMemory (R35), by position. -/
  atMem : Memory
  /-- `SCRDIS` (R36). -/
  scrdis : Bool
  /-- `PEND` (R37). -/
  pend : Bool
  /-- `FSC` (R38). -/
  fsc : Fsc
  /-- `SHUT_REQ` (R39). -/
  shutReq : Bool
  /-- The cell of `ERR` (R40); it is read through `State.errByte`. -/
  err : Byte
  /-- `LASTERR` (R40). -/
  lastErr : BitVec 4
  /-- The transitions still to come, in the total order of this run (R9, R72; log entry 1). -/
  inputs : List Action
  /-- The responses returned so far, newest first (R96; log entry 5). -/
  resps : List Resp
  /-- How many resets have happened since the first (U1; log entry 8). -/
  epoch : Nat
  deriving DecidableEq, Repr

/-- The block with parameter record `c` right after its first reset (R44). `sprMem`, `ntMem` and `atMem` list nothing,
so every cell reads as its free byte. -/
def State.boot (c : Config) : State where
  cfg := c
  ctrl1 := 0#8
  ctrl2 := 0#8
  status := 0#8
  oamAddr := 0#8
  oamData := 0#8
  scrollX := 0#8
  scrollY := 0#8
  vaddr := 0#16
  w := false
  queue := []
  sprMem := []
  nextCtrl1 := 0#8
  nextCtrl2 := 0#8
  nextScrollX := 0#8
  nextScrollY := 0#8
  ntMem := []
  atMem := []
  scrdis := false
  pend := false
  fsc := .waitingForSync
  shutReq := false
  err := 0#8
  lastErr := 0#4
  inputs := []
  resps := []
  epoch := 0

/-- The block with the default parameters (R4) right after reset (R44), no input placed (log entry 2). -/
def State.reset : State := State.boot Config.default

end Sys2Proof.Machine
end

