-- ==== Sys2Proof/Machine/Flags.lean ====
section
/-! DEFINITION. The flags of R31: the bits of STATUS, the error log, and the predicates the block computes from its
registers. -/

namespace Sys2Proof.Machine

/-- The vblank flag, STATUS[7] (R24). -/
def vblankBit : Byte := 0x80#8

/-- The sprite-0-hit flag, STATUS[6] (R24). -/
def spr0Bit : Byte := 0x40#8

/-- The overflow flag, STATUS[5] (R24). -/
def ovfBit : Byte := 0x20#8

/-- The bits of `v` under the mask `m` written to `b`. -/
def writeFlag (v m : Byte) (b : Bool) : Byte := if b then v ||| m else v &&& ~~~m

/-- STATUS as it is read: bits 4:0 are not implemented and always read as 0 (R24; log entry 14). -/
def State.statusByte (s : State) : Byte := s.status &&& 0xE0#8

/-- STATUS[7], as `FlushLegal()` reads it (R144). -/
def State.vblank (s : State) : Bool := s.status.getLsbD 7

/-- ERR as it is read: bits 7:4 are always 0 (R40; log entry 14). -/
def State.errByte (s : State) : Byte := s.err &&& 0x0F#8

/-- The ContractViolations (R181). -/
inductive Violation where
  | flushWhileRendering
  | spriteIndexRange
  | queueOverflow
  | callbackFailed
  deriving DecidableEq, Repr

/-- The number of a violation, which is also its response code (R181). -/
def violationNumber : Violation → BitVec 4
  | .flushWhileRendering => 1#4
  | .spriteIndexRange => 2#4
  | .queueOverflow => 3#4
  | .callbackFailed => 4#4

/-- The bit of ERR a violation sets: `ERR[k-1]` (R181). -/
def violationBit : Violation → Byte
  | .flushWhileRendering => 0x01#8
  | .spriteIndexRange => 0x02#8
  | .queueOverflow => 0x04#8
  | .callbackFailed => 0x08#8

/-- `RenderingOff()` (R144). -/
def State.renderingOff (s : State) : Bool := s.ctrl2 &&& s.cfg.rendMask == 0#8

/-- `FlushLegal()` (R144). -/
def State.flushLegal (s : State) : Bool :=
  match s.cfg.flushPolicy with
  | .always => true
  | .renderOffOrVblank => s.renderingOff || s.vblank

/-- Whether an `EV_VBLANK` sets `PEND`: the gate of R190. -/
def State.nmiOpen (s : State) : Bool := !s.cfg.nmiGate || s.ctrl1.getLsbD s.cfg.nmiBit

/-- The output `CB_REQ` (R197). -/
def State.cbReq (s : State) : Bool := s.fsc == .runningTick

/-- The output `STOPPED` (R197). -/
def State.stoppedOut (s : State) : Bool := s.fsc == .stopped

/-- `TickStart` is enabled (R195): the signal ends the wait, no time does (R202). -/
def State.tickStartEnabled (s : State) : Bool := s.fsc == .waitingForSync && s.pend && !s.shutReq

/-- `Stop` is enabled (R196): the shutdown ends the wait (R202). -/
def State.stopEnabled (s : State) : Bool := s.fsc == .waitingForSync && s.shutReq

/-- The wait for the signal (R202, R206): neither a wake-up nor a shutdown is there, so no step of the FSC is enabled
(`awaitsSync_iff_nothing_enabled`). Nothing of `State` counts its length, so it ends only by what sets `PEND` or
`SHUT_REQ`. -/
def State.awaitsSync (s : State) : Bool := s.fsc == .waitingForSync && !s.pend && !s.shutReq

end Sys2Proof.Machine
end

