-- ==== Sys2Proof/Machine/Operands.lean ====
section
/-! DEFINITION. Operand forms of the commands (R94) and the packing of read values into response data (R96). -/

namespace Sys2Proof.Machine

/-- `d[0]`, the one bit of `d` that `SETSCRDIS` and `CBRET` use (R94). -/
def flagOperand (d : Byte) : Bool := d.getLsbD 0

/-- A byte, zero-extended to the response data (R96). -/
def byteData (b : Byte) : RespData := b.setWidth 32

/-- A 16-bit value, zero-extended to the response data (R96). -/
def addrData (a : Addr) : RespData := a.setWidth 32

/-- A field of the response data: `v` with its bit 0 at bit `lo` (R7, R96). -/
def dataField {n : Nat} (v : BitVec n) (lo : Nat) : RespData := v.setWidth 32 <<< lo

/-- A pair `{hi, lo}`, zero-extended to the response data (R122). -/
def pairData (hi lo : Byte) : RespData := dataField hi 8 ||| dataField lo 0

/-- A queue length, zero-extended to the response data (R141; log entry 13). -/
def countData (n : Nat) : RespData := BitVec.ofNat 32 n

/-- `{LASTERR, ERR}`: ERR in bits 7:0, LASTERR in bits 11:8 (R155). -/
def errData (last : BitVec 4) (e : Byte) : RespData := dataField last 8 ||| dataField e 0

/-- The code of a controller state (R38). -/
def fscCode : Fsc → BitVec 2
  | .waitingForSync => 0#2
  | .runningTick => 1#2
  | .stopped => 2#2

/-- `{SCRDIS, SHUT_REQ, PEND, code(FSC)}` (R156). -/
def fscData (scrdis shutReq pend : Bool) (f : Fsc) : RespData :=
  dataField (BitVec.ofBool scrdis) 4 ||| dataField (BitVec.ofBool shutReq) 3 ||| dataField (BitVec.ofBool pend) 2 |||
    dataField (fscCode f) 0

/-- `{x, y, tile, attr}` (R172). -/
def slotData (x y tile attr : Byte) : RespData := dataField x 24 ||| dataField y 16 ||| dataField tile 8 ||| dataField attr 0

/-- The high byte of an address replaced (R115). -/
def withHigh (a : Addr) (d : Byte) : Addr := d.setWidth 16 <<< 8 ||| (a.extractLsb' 0 8).setWidth 16

/-- The low byte of an address replaced (R115). -/
def withLow (a : Addr) (d : Byte) : Addr := (a.extractLsb' 8 8).setWidth 16 <<< 8 ||| d.setWidth 16

/-- A sprite index names a slot (R94, R170). -/
def State.slotExists (s : State) (idx : Byte) : Bool := decide (idx.toNat < s.cfg.nsprites)

end Sys2Proof.Machine
end

