-- ==== Sys2Proof/Machine/Ops.lean ====
section
/-! DEFINITION. The operations the commands and events share: memory, the data port (R62 to R66), the response (R96), the
violation (R182), the flush (R143, R145), the write-back (R154) and reset (R220). -/

namespace Sys2Proof.Machine

/-- The canonical form: cells strictly rising, all below `size`. -/
abbrev Memory.wf (size : Nat) (m : Memory) : Prop := m.Pairwise (fun c d => c.1 < d.1) ∧ ∀ c ∈ m, c.1 < size

/-- The byte written to cell `k` since the last reset, if any. -/
def Memory.read : Memory → Nat → Option Byte
  | [], _ => none
  | (a, b) :: m, k => if a = k then some b else Memory.read m k

/-- Cell `k` set to `b`, the cells kept strictly rising. -/
def Memory.write : Memory → Nat → Byte → Memory
  | [], k, b => [(k, b)]
  | (a, c) :: m, k, b =>
    if k < a then (k, b) :: (a, c) :: m else if k = a then (k, b) :: m else (a, c) :: Memory.write m k b

/-- NametableMemory at position `i`: the byte written, or the free byte of the last reset (R35, U1). -/
def State.ntByte (s : State) (i : Nat) : Byte := (s.ntMem.read i).getD (Config.freeNt s.epoch i)

/-- AttributeMemory at position `i`: the byte written, or the free byte of the last reset (R35, U1). -/
def State.atByte (s : State) (i : Nat) : Byte := (s.atMem.read i).getD (Config.freeAt s.epoch i)

/-- The four fields of a sprite slot (R33). -/
inductive SlotField where
  | x | y | tile | attr
  deriving DecidableEq, Repr

/-- The cell of a slot's field in `State.sprMem` (log entry 10). -/
def slotCell (i : Nat) : SlotField → Nat
  | .x => 4 * i
  | .y => 4 * i + 1
  | .tile => 4 * i + 2
  | .attr => 4 * i + 3

/-- A field of slot `i`: the byte written, or the free byte of the last reset (R33, U1). -/
def State.sprByte (s : State) (i : Nat) (f : SlotField) : Byte :=
  (s.sprMem.read (slotCell i f)).getD (Config.freeSpr s.epoch (slotCell i f))

/-- A VRAM address is backed by NametableMemory (R62). -/
def State.inNt (s : State) (a : Addr) : Bool :=
  decide (s.cfg.ntBase.toNat ≤ a.toNat ∧ a.toNat < s.cfg.ntBase.toNat + s.cfg.ntSize)

/-- A VRAM address is backed by AttributeMemory (R62). -/
def State.inAt (s : State) (a : Addr) : Bool :=
  decide (s.cfg.atBase.toNat ≤ a.toNat ∧ a.toNat < s.cfg.atBase.toNat + s.cfg.atSize)

/-- `VWrite(a, b)` (R62): one byte of one array, or nothing. -/
def State.vWrite (s : State) (a : Addr) (b : Byte) : State :=
  if s.inNt a then { s with ntMem := s.ntMem.write (a.toNat - s.cfg.ntBase.toNat) b }
  else if s.inAt a then { s with atMem := s.atMem.write (a.toNat - s.cfg.atBase.toNat) b }
  else s

/-- `VRead(a)` (R63): no value at an unbacked address. -/
def State.vRead (s : State) (a : Addr) : Option Byte :=
  if s.inNt a then some (s.ntByte (a.toNat - s.cfg.ntBase.toNat))
  else if s.inAt a then some (s.atByte (a.toNat - s.cfg.atBase.toNat))
  else none

/-- `Inc()` (R65), from the live CTRL1. -/
def State.inc (s : State) : Nat := if s.ctrl1.getLsbD s.cfg.incBit then s.cfg.incHi else s.cfg.incLo

/-- `(a + Inc()) mod 0x10000` (R64, R66). -/
def State.bump (s : State) (a : Addr) : Addr := BitVec.ofNat 16 ((a.toNat + s.inc) % 0x10000)

/-- `DataPortWrite(b)` (R64): the store at `VADDR`, then the increment. -/
def State.dataPortWrite (s : State) (b : Byte) : State :=
  { s.vWrite s.vaddr b with vaddr := s.bump s.vaddr }

/-- `resp(code, data)` (R96). -/
def State.respond (s : State) (code : RespCode) (data : RespData) : State :=
  { s with resps := ⟨code, data⟩ :: s.resps }

/-- `resp(0, data)`: a command that read a value (R96). -/
def State.answer (s : State) (data : RespData) : State := s.respond 0#4 data

/-- `resp(0, 0)`: a command that reads nothing (R8, R96). -/
def State.done (s : State) : State := s.respond 0#4 0#32

/-- `resp(15, 0)`: the response to an illegal word, with no other effect (R96, R100). -/
def State.illegal (s : State) : State := s.respond 15#4 0#32

/-- The running tick is abandoned, if there is one (R182). -/
def abandonTick : Fsc → Fsc
  | .runningTick => .waitingForSync
  | f => f

/-- `raise CV(k)` (R182), the one way a violation is taken: log it, abandon the running tick, nothing else. -/
def State.raise (s : State) (v : Violation) : State :=
  { s with err := s.err ||| violationBit v, lastErr := violationNumber v, fsc := abandonTick s.fsc }

/-- A host command that raises a violation and returns its number (R181, R182). -/
def State.raiseAnswer (s : State) (v : Violation) : State := (s.raise v).respond (violationNumber v) 0#32

/-- One entry of a flush: load `VADDR`, write the data port (R143). -/
def State.applyEntry (s : State) (e : Entry) : State := ({ s with vaddr := e.addr } : State).dataPortWrite e.data

/-- Entries applied in the order of the list, the oldest first (R143). -/
def State.applyEntries (s : State) (es : List Entry) : State := es.foldl State.applyEntry s

/-- `Flush()` (R143). -/
def State.flush (s : State) : State := { s.applyEntries s.queue with queue := [] }

/-- The entry of a tick, the block's trap entry (R195, R145): the wake-up is consumed, then the checked flush either
raises violation 1 or applies the queue and requests the callback. The flush does not read `PEND`. -/
def State.enterTick (s : State) : State :=
  if !s.queue.isEmpty && !s.flushLegal then ({ s with pend := false } : State).raise .flushWhileRendering
  else { s.flush with pend := false, fsc := .runningTick }

/-- The write-back of step (3) of the tick body, skipping CTRL2 and the scroll pair while `SCRDIS = 1` (R154). -/
def State.writeBack (s : State) : State :=
  if s.scrdis then { s with ctrl1 := s.nextCtrl1 }
  else { s with ctrl1 := s.nextCtrl1, ctrl2 := s.nextCtrl2, scrollX := s.nextScrollX, scrollY := s.nextScrollY }

/-- The return from a tick, the block's return from trap (R154, R198). -/
def State.leaveTick (s : State) : State := { s.writeBack with fsc := .waitingForSync }

/-- `Stop` (R196). -/
def State.stop (s : State) : State := { s with fsc := .stopped }

/-- `Reset()` (R220): the state of R44 with fresh free bytes; the inputs still to come and the responses already
returned are not state of the block (log entry 7). -/
def State.resetBlock (s : State) : State :=
  { State.boot s.cfg with inputs := s.inputs, resps := s.resps, epoch := s.epoch + 1 }

/-- A field of slot `i` set to `b`. -/
def Memory.writeField (m : Memory) (i : Nat) (f : SlotField) (b : Byte) : Memory := m.write (slotCell i f) b

/-- One sprite slot written, all four fields together (R170). -/
def State.setSlot (s : State) (i : Nat) (x y tile attr : Byte) : State :=
  { s with sprMem := (((s.sprMem.writeField i .x x).writeField i .y y).writeField i .tile tile).writeField i .attr attr }

/-- The `y` of slots 1 to `n` set to `b` (R171). -/
def Memory.hideSlots (m : Memory) (b : Byte) : Nat → Memory
  | 0 => m
  | n + 1 => (Memory.hideSlots m b n).writeField (n + 1) .y b

/-- Every slot but slot 0 hidden (R171). -/
def State.hideSprites (s : State) : State :=
  { s with sprMem := s.sprMem.hideSlots s.cfg.offscreenY (s.cfg.nsprites - 1) }

end Sys2Proof.Machine
end

