-- ==== Sys2Proof/Machine/FrameSync.lean ====
section
/-! DEFINITION. The meanings of the frame-sync commands (42_frame_sync.md). -/

namespace Sys2Proof.Machine

/-- `SETNCTRL1 d` (R150). -/
def execSetnctrl1 (d : Byte) (s : State) : Host.Outcome State Fault Refusal :=
  .next ({ s with nextCtrl1 := d } : State).done

/-- `SETNCTRL2 d` (R151). -/
def execSetnctrl2 (d : Byte) (s : State) : Host.Outcome State Fault Refusal :=
  .next ({ s with nextCtrl2 := d } : State).done

/-- `SETNSCROLL x, y` (R152): `hi` is x, `lo` is y. -/
def execSetnscroll (hi lo : Byte) (s : State) : Host.Outcome State Fault Refusal :=
  .next ({ s with nextScrollX := hi, nextScrollY := lo } : State).done

/-- `SETSCRDIS d` (R153): only `d[0]` is used (R94). -/
def execSetscrdis (d : Byte) (s : State) : Host.Outcome State Fault Refusal :=
  .next ({ s with scrdis := flagOperand d } : State).done

/-- `CBRET d` (R154): NO_TICK outside a tick, violation 4 on a failure, else the write-back and the return; the test of
`FSC` comes first (R199). -/
def execCbret (d : Byte) (s : State) : Host.Outcome State Fault Refusal :=
  if s.fsc ≠ .runningTick then .next (s.respond 5#4 0#32)
  else if flagOperand d then .next (s.raiseAnswer .callbackFailed)
  else .next s.leaveTick.done

/-- `RDERR` (R155). -/
def execRderr (s : State) : Host.Outcome State Fault Refusal :=
  .next (s.answer (errData s.lastErr s.errByte))

/-- `RDFSC` (R156). -/
def execRdfsc (s : State) : Host.Outcome State Fault Refusal :=
  .next (s.answer (fscData s.scrdis s.shutReq s.pend s.fsc))

/-- `REINIT` (R157): the effect of `EV_RESET`. -/
def execReinit (s : State) : Host.Outcome State Fault Refusal :=
  .next s.resetBlock.done

end Sys2Proof.Machine
end

