-- ==== Sys2Proof/Machine/Ports.lean ====
section
/-! DEFINITION. The meanings of the port commands (40_register_ports.md). -/

namespace Sys2Proof.Machine

/-- `WRCTRL1 d` (R110). -/
def execWrctrl1 (d : Byte) (s : State) : Host.Outcome State Fault Refusal :=
  .next ({ s with ctrl1 := d } : State).done

/-- `WRCTRL2 d` (R111). -/
def execWrctrl2 (d : Byte) (s : State) : Host.Outcome State Fault Refusal :=
  .next ({ s with ctrl2 := d } : State).done

/-- `WROAMADDR d` (R112): a plain cell. -/
def execWroamaddr (d : Byte) (s : State) : Host.Outcome State Fault Refusal :=
  .next ({ s with oamAddr := d } : State).done

/-- `WROAMDATA d` (R113): a plain cell, with no path to the sprite table. -/
def execWroamdata (d : Byte) (s : State) : Host.Outcome State Fault Refusal :=
  .next ({ s with oamData := d } : State).done

/-- `WRSCROLL d` (R114): X or Y by the shared toggle (R125). -/
def execWrscroll (d : Byte) (s : State) : Host.Outcome State Fault Refusal :=
  if s.w then .next ({ s with scrollY := d, w := false } : State).done
  else .next ({ s with scrollX := d, w := true } : State).done

/-- `WRADDR d` (R115): the high or the low byte of VADDR by the shared toggle (R125). -/
def execWraddr (d : Byte) (s : State) : Host.Outcome State Fault Refusal :=
  if s.w then .next ({ s with vaddr := withLow s.vaddr d, w := false } : State).done
  else .next ({ s with vaddr := withHigh s.vaddr d, w := true } : State).done

/-- `WRDATA d` (R116): never checked against the flush window (R76). -/
def execWrdata (d : Byte) (s : State) : Host.Outcome State Fault Refusal :=
  .next (s.dataPortWrite d).done

/-- `RDCTRL1` (R117). -/
def execRdctrl1 (s : State) : Host.Outcome State Fault Refusal :=
  .next (s.answer (byteData s.ctrl1))

/-- `RDCTRL2` (R118). -/
def execRdctrl2 (s : State) : Host.Outcome State Fault Refusal :=
  .next (s.answer (byteData s.ctrl2))

/-- `RDSTATUS` (R119): the byte before the side effects, then STATUS[7] and W cleared. -/
def execRdstatus (s : State) : Host.Outcome State Fault Refusal :=
  .next (({ s with status := writeFlag s.status vblankBit false, w := false } : State).answer (byteData s.statusByte))

/-- `RDOAMADDR` (R120). -/
def execRdoamaddr (s : State) : Host.Outcome State Fault Refusal :=
  .next (s.answer (byteData s.oamAddr))

/-- `RDOAMDATA` (R121). -/
def execRdoamdata (s : State) : Host.Outcome State Fault Refusal :=
  .next (s.answer (byteData s.oamData))

/-- `RDSCROLL` (R122). -/
def execRdscroll (s : State) : Host.Outcome State Fault Refusal :=
  .next (s.answer (pairData s.scrollX s.scrollY))

/-- `RDADDR` (R123). -/
def execRdaddr (s : State) : Host.Outcome State Fault Refusal :=
  .next (s.answer (addrData s.vaddr))

end Sys2Proof.Machine
end

