-- ==== Sys2Proof/Machine/Queue.lean ====
section
/-! DEFINITION. The meanings of the queue commands (41_vram_queue.md). -/

namespace Sys2Proof.Machine

/-- `ENQ addr, d` (R140): violation 3 exactly when the queue is full (90_conflicts.md C1, C7). -/
def execEnq (addr : Addr) (d : Byte) (s : State) : Host.Outcome State Fault Refusal :=
  if s.queue.length = s.cfg.qcap then .next (s.raiseAnswer .queueOverflow)
  else .next ({ s with queue := s.queue ++ [⟨addr, d⟩] } : State).done

/-- `RDQLEN` (R141). -/
def execRdqlen (s : State) : Host.Outcome State Fault Refusal :=
  .next (s.answer (countData s.queue.length))

end Sys2Proof.Machine
end

