-- ==== Sys2Proof/Machine/Sprites.lean ====
section
/-! DEFINITION. The meanings of the sprite commands (43_sprite_table.md). -/

namespace Sys2Proof.Machine

/-- `SPRSET idx, x, y, tile, attr` (R170). -/
def execSprset (idx x y tile attr : Byte) (s : State) : Host.Outcome State Fault Refusal :=
  if s.slotExists idx then .next (s.setSlot idx.toNat x y tile attr).done
  else .next (s.raiseAnswer .spriteIndexRange)

/-- `SPRCLR` (R171). -/
def execSprclr (s : State) : Host.Outcome State Fault Refusal :=
  .next s.hideSprites.done

/-- `SPRGET idx` (R172). -/
def execSprget (idx : Byte) (s : State) : Host.Outcome State Fault Refusal :=
  if s.slotExists idx then
    .next (s.answer (slotData (s.sprByte idx.toNat .x) (s.sprByte idx.toNat .y) (s.sprByte idx.toNat .tile)
      (s.sprByte idx.toNat .attr)))
  else .next (s.raiseAnswer .spriteIndexRange)

end Sys2Proof.Machine
end

