-- ==== Sys2Proof/Machine/Dispatch.lean ====
section
/-! DEFINITION. The dispatch of a host command to its meaning. -/

namespace Sys2Proof.Machine

/-- The effect of one host command (R90): one arm per row of the opcode map. -/
def exec (i : Instr) (s : State) : Host.Outcome State Fault Refusal :=
  match i with
  | .wrctrl1 d => Sys2Proof.Machine.execWrctrl1 d s
  | .wrctrl2 d => Sys2Proof.Machine.execWrctrl2 d s
  | .wroamaddr d => Sys2Proof.Machine.execWroamaddr d s
  | .wroamdata d => Sys2Proof.Machine.execWroamdata d s
  | .wrscroll d => Sys2Proof.Machine.execWrscroll d s
  | .wraddr d => Sys2Proof.Machine.execWraddr d s
  | .wrdata d => Sys2Proof.Machine.execWrdata d s
  | .rdctrl1 => Sys2Proof.Machine.execRdctrl1 s
  | .rdctrl2 => Sys2Proof.Machine.execRdctrl2 s
  | .rdstatus => Sys2Proof.Machine.execRdstatus s
  | .rdoamaddr => Sys2Proof.Machine.execRdoamaddr s
  | .rdoamdata => Sys2Proof.Machine.execRdoamdata s
  | .rdscroll => Sys2Proof.Machine.execRdscroll s
  | .rdaddr => Sys2Proof.Machine.execRdaddr s
  | .enq addr d => Sys2Proof.Machine.execEnq addr d s
  | .rdqlen => Sys2Proof.Machine.execRdqlen s
  | .setnctrl1 d => Sys2Proof.Machine.execSetnctrl1 d s
  | .setnctrl2 d => Sys2Proof.Machine.execSetnctrl2 d s
  | .setnscroll hi lo => Sys2Proof.Machine.execSetnscroll hi lo s
  | .setscrdis d => Sys2Proof.Machine.execSetscrdis d s
  | .cbret d => Sys2Proof.Machine.execCbret d s
  | .rderr => Sys2Proof.Machine.execRderr s
  | .rdfsc => Sys2Proof.Machine.execRdfsc s
  | .sprset idx x y tile attr => Sys2Proof.Machine.execSprset idx x y tile attr s
  | .sprclr => Sys2Proof.Machine.execSprclr s
  | .sprget idx => Sys2Proof.Machine.execSprget idx s
  | .reinit => Sys2Proof.Machine.execReinit s

end Sys2Proof.Machine
end

