-- ==== Sys2Proof/Machine/Events.lean ====
section
/-! DEFINITION. The transitions that are not host commands (60_exceptions.md): events and the steps of the FSC. -/

namespace Sys2Proof.Machine

/-- The events of the video timing source (R190, R192, R193). -/
def videoEvent (e : VideoEvent) (s : State) : State :=
  match e with
  | .vblank => { s with status := writeFlag s.status vblankBit true, pend := s.pend || s.nmiOpen }
  | .spr0 b => { s with status := writeFlag s.status spr0Bit b }
  | .ovf b => { s with status := writeFlag s.status ovfBit b }

/-- The events of the supervisor (R194, R221). -/
def supervisorEvent (e : SupervisorEvent) (s : State) : State :=
  match e with
  | .shutdown => { s with shutReq := true }
  | .reset => s.resetBlock

/-- A step of the FSC, which exists only where it is enabled (R195, R196; log entry 3). -/
def runFsc (k : FscStep) (s : State) : Host.Outcome State Fault Refusal :=
  match k with
  | .tickStart => if s.tickStartEnabled then .next s.enterTick else .refused (.stepNotEnabled .tickStart)
  | .stop => if s.stopEnabled then .next s.stop else .refused (.stepNotEnabled .stop)

/-- Why the block waits when no input is left and no step of the FSC is enabled (R207). -/
def waitReason : Fsc → Fault
  | .waitingForSync => .waitingForVblank
  | .runningTick => .callbackNotReturned
  | .stopped => .loopStopped

/-- No input is left: the FSC takes the step that is enabled (at most one is, R199; fairness, R241), else the state is
quiescent (R207; log entry 4). -/
def idle (s : State) : Host.Outcome State Fault Refusal :=
  if s.tickStartEnabled then .next s.enterTick else if s.stopEnabled then .next s.stop else .fault (waitReason s.fsc)

end Sys2Proof.Machine
end

