-- ==== Sys2Proof/Machine/Command.lean ====
section
/-! DEFINITION. One transition of one agent (R9): a host word is decoded and executed, an event or an FSC step runs. -/

namespace Sys2Proof.Machine

/-- The host issues one word (R90): a command has its effect, an illegal word has none and is answered (15, 0) (R100;
log entry 11). The test for an illegal word comes before anything else (R199). -/
def runCommand (cmd : CmdWord) (s : State) : Host.Outcome State Fault Refusal :=
  match decode cmd with
  | .ok i => exec i s
  | .error _ => .next s.illegal

/-- One transition of one agent (R9). -/
def runAction (a : Action) (s : State) : Host.Outcome State Fault Refusal :=
  match a with
  | .host cmd => runCommand cmd s
  | .video e => .next (videoEvent e s)
  | .supervisor e => .next (supervisorEvent e s)
  | .fsc k => runFsc k s

/-- The next transition of the run: the first of the inputs, or `idle` when none is left (log entries 1 and 4). -/
def takeInput (s : State) : Host.Outcome State Fault Refusal :=
  match s.inputs with
  | [] => idle s
  | a :: rest => runAction a { s with inputs := rest }

/-- The state with one more host word in front of its inputs. -/
def State.pushWord (s : State) (cmd : CmdWord) : State := { s with inputs := .host cmd :: s.inputs }

/-- The state with the word a table number stands for in front of its inputs; a number that is no word places none. -/
def placeTableWord (s : State) (nbits w : Nat) : State :=
  match tableWord nbits w with
  | some cmd => s.pushWord cmd
  | none => s

end Sys2Proof.Machine
end

