-- ==== Sys2Proof/Machine/Step.lean ====
section
/-! DEFINITION. One step of the machine, and the placing of the next command word. -/

namespace Sys2Proof.Machine

/-- One atomic transition (R70, R72). No machine exists for a record that breaks R5 (R183, U12). -/
def step (s : State) : Host.Outcome State Fault Refusal :=
  if s.cfg.Valid then takeInput s else .refused .configurationError

/-- The command word `w`, numbered as the opcode table numbers it, placed as the next input (log entry 2). -/
def State.withFetchWord (s : State) (nbits w : Nat) : State := placeTableWord s nbits w

end Sys2Proof.Machine
end

