-- ==== Sys2Proof/Machine/Script.lean ====
section
/-! DEFINITION. The textual syntax of command scripts (R102, R103): one line of text to the actions it stands for. -/

namespace Sys2Proof.Machine

/-- A space or a tab (log entry 15). -/
def isBlank (c : Char) : Bool := c == ' ' || c == '\t'

/-- The text without blanks at its ends. -/
def trimBlanks (cs : List Char) : List Char := ((cs.dropWhile isBlank).reverse.dropWhile isBlank).reverse

/-- The text cut at its commas. -/
def splitCommas : List Char → List (List Char)
  | [] => [[]]
  | c :: cs =>
    if c = ',' then [] :: splitCommas cs
    else match splitCommas cs with
      | [] => [[c]]
      | p :: ps => (c :: p) :: ps

/-- The value of a digit below `base`. -/
def digitValue (base : Nat) (c : Char) : Option Nat :=
  let v := if '0' ≤ c ∧ c ≤ '9' then c.toNat - 48 else if 'a' ≤ c ∧ c ≤ 'f' then c.toNat - 87
    else if 'A' ≤ c ∧ c ≤ 'F' then c.toNat - 55 else base
  if v < base then some v else none

/-- The value of a run of digits, `acc` being what stands before it. -/
def digitsValue (base : Nat) : List Char → Nat → Option Nat
  | [], acc => some acc
  | c :: cs, acc =>
    match digitValue base c with
    | some v => digitsValue base cs (acc * base + v)
    | none => none

/-- A decimal or `0x` hexadecimal number (R102); its spellings are the model's choice (log entry 15). -/
def numberValue : List Char → Option Nat
  | [] => none
  | '0' :: 'x' :: c :: cs => digitsValue 16 (c :: cs) 0
  | c :: cs => digitsValue 10 (c :: cs) 0

/-- All operands of a line, or none if one is no number. -/
def operandValues : List (List Char) → Option (List Nat)
  | [] => some []
  | t :: ts =>
    match numberValue (trimBlanks t), operandValues ts with
    | some n, some ns => some (n :: ns)
    | _, _ => none

/-- The operands of a line, separated by commas; no text is no operand. -/
def lineOperands (cs : List Char) : Option (List Nat) :=
  match trimBlanks cs with
  | [] => some []
  | t => operandValues (splitCommas t)

/-- The mnemonic and the operands of a line. -/
def parseLine (cs : List Char) : Option Line :=
  let t := trimBlanks cs
  match lineOperands (t.dropWhile fun c => !isBlank c) with
  | some ns => some ⟨String.ofList (t.takeWhile fun c => !isBlank c), ns⟩
  | none => none

/-- A pseudo-command line (R103); an operand too large for its field makes it none (the model's choice, log entry 16). -/
def pseudoOfLine (l : Line) : Option Pseudo :=
  match l.mnemonic, l.operands with
  | "SETSCROLL", [x, y] => if x < 256 ∧ y < 256 then some (.setscroll (byteOperand x) (byteOperand y)) else none
  | "SETADDR", [a] => if a < 65536 then some (.setaddr (BitVec.ofNat 16 a)) else none
  | "SPRHIDE", [i] => if i < 256 then some (.sprhide (byteOperand i)) else none
  | "SETCTRL1", [b] => if b < 256 then some (.setctrl1 (byteOperand b)) else none
  | "SETCTRL2", [b] => if b < 256 then some (.setctrl2 (byteOperand b)) else none
  | _, _ => none

/-- A line after `!`: an event or a step of the FSC, which has no encoding (R102); a flag operand is 0 or 1 (log entry
15). -/
def eventOfLine (l : Line) : Option Action :=
  match l.mnemonic, l.operands with
  | "EV_VBLANK", [] => some (.video .vblank)
  | "EV_SPR0", [b] => if b < 2 then some (.video (.spr0 (b == 1))) else none
  | "EV_OVF", [b] => if b < 2 then some (.video (.ovf (b == 1))) else none
  | "EV_SHUTDOWN", [] => some (.supervisor .shutdown)
  | "EV_RESET", [] => some (.supervisor .reset)
  | "TickStart", [] => some (.fsc .tickStart)
  | "Stop", [] => some (.fsc .stop)
  | _, _ => none

/-- The host action of a command. -/
def issue (i : Instr) : Action := .host (encode i)

/-- The actions of a command or pseudo-command line (R102, R103). -/
def commandActions (c : Config) (l : Line) : Option (List Action) :=
  match assemble l with
  | some i => some [issue i]
  | none =>
    match pseudoOfLine l with
    | some p => some ((p.expand c.offscreenY).map issue)
    | none => none

/-- The actions one line of a script stands for; a `;` starts a comment, and a line with nothing else stands for none
(R102). -/
def scriptLine (c : Config) (text : List Char) : Option (List Action) :=
  match trimBlanks (text.takeWhile (· ≠ ';')) with
  | [] => some []
  | '!' :: cs =>
    match parseLine cs with
    | some l => (eventOfLine l).map ([·])
    | none => none
  | cs =>
    match parseLine cs with
    | some l => commandActions c l
    | none => none

end Sys2Proof.Machine
end

