-- ==== Sys2Proof/Machine/Snapshot.lean ====
section
/-! DEFINITION. The snapshot of the block (R205): how the excluded rasterizer reads it. -/

namespace Sys2Proof.Machine

/-- A sprite slot as the snapshot shows it. -/
structure Slot where
  x : Byte
  y : Byte
  tile : Byte
  attr : Byte
  deriving DecidableEq, Repr

/-- Slot `i` as the snapshot shows it. -/
def State.slot (s : State) (i : Nat) : Slot :=
  ⟨s.sprByte i .x, s.sprByte i .y, s.sprByte i .tile, s.sprByte i .attr⟩

/-- What the snapshot shows (R205): every piece of state of the block, memories and sprite table as their bytes. -/
structure Snapshot where
  ctrl1 : Byte
  ctrl2 : Byte
  status : Byte
  oamAddr : Byte
  oamData : Byte
  scrollX : Byte
  scrollY : Byte
  vaddr : Addr
  w : Bool
  queue : List Entry
  spr : List Slot
  nextCtrl1 : Byte
  nextCtrl2 : Byte
  nextScrollX : Byte
  nextScrollY : Byte
  ntBytes : List Byte
  attrBytes : List Byte
  scrdis : Bool
  pend : Bool
  fsc : Fsc
  shutReq : Bool
  err : Byte
  lastErr : BitVec 4
  deriving DecidableEq, Repr

/-- The snapshot (R205): a view of the state, which it does not change. It is also the content of a save state; nothing
restores one (U17). -/
def State.snapshot (s : State) : Snapshot where
  ctrl1 := s.ctrl1
  ctrl2 := s.ctrl2
  status := s.statusByte
  oamAddr := s.oamAddr
  oamData := s.oamData
  scrollX := s.scrollX
  scrollY := s.scrollY
  vaddr := s.vaddr
  w := s.w
  queue := s.queue
  spr := (List.range s.cfg.nsprites).map s.slot
  nextCtrl1 := s.nextCtrl1
  nextCtrl2 := s.nextCtrl2
  nextScrollX := s.nextScrollX
  nextScrollY := s.nextScrollY
  ntBytes := (List.range s.cfg.ntSize).map s.ntByte
  attrBytes := (List.range s.cfg.atSize).map s.atByte
  scrdis := s.scrdis
  pend := s.pend
  fsc := s.fsc
  shutReq := s.shutReq
  err := s.errByte
  lastErr := s.lastErr

end Sys2Proof.Machine
end

