-- ==== Sys2Proof/Safety.lean ====
section
/-! DEFINITION. What counts as a good state and a safe run, and the words claims about runs use. -/

namespace Sys2Proof.Machine

/-- The bounds of R42, with the parameter record admitted by R5, the memories in canonical form inside their sizes
(R33, R35) and no reserved bit of STATUS or ERR set (R24, R40). -/
structure State.Inv (s : State) : Prop where
  cfgValid : s.cfg.Valid
  queueBound : s.queue.length ≤ s.cfg.qcap
  errReserved : s.err &&& 0xF0#8 = 0#8
  lastErrBound : s.lastErr.toNat ≤ 4
  statusReserved : s.status &&& 0x1F#8 = 0#8
  ntWf : s.ntMem.wf s.cfg.ntSize
  atWf : s.atMem.wf s.cfg.atSize
  sprWf : s.sprMem.wf (4 * s.cfg.nsprites)

/-- The error log agrees with itself: nothing logged, or LASTERR numbers a violation whose bit of ERR is set (R40). -/
def State.LogAgrees (s : State) : Prop :=
  (s.err = 0#8 ∧ s.lastErr = 0#4) ∨ ∃ v, s.lastErr = violationNumber v ∧ s.err &&& violationBit v ≠ 0#8

/-- No violation since the last reset (R40). -/
def State.Clean (s : State) : Prop := s.errByte = 0#8

/-- A run of `n` steps that stops nowhere and ends with no violation logged. -/
def SafeRun (n : Nat) (s : State) : Prop := ∃ t, Sys2Proof.core.run n s = .next t ∧ t.Clean

end Sys2Proof.Machine

namespace Sys2Proof

/-- The command an action issues, if it is a host word that is one. -/
def Action.command : Action → Option Instr
  | .host cmd =>
    match decode cmd with
    | .ok i => some i
    | .error _ => none
  | _ => none

/-- A write of the scroll or the address port, which flips `W` (R30). -/
def Action.flipsToggle (a : Action) : Bool :=
  match a.command with
  | some (.wrscroll _) => true
  | some (.wraddr _) => true
  | _ => false

/-- A command or event that resets the block (R221). -/
def Action.resets (a : Action) : Bool :=
  a == .supervisor .reset || a.command == some .reinit

/-- A command or event that sets `W` to its initial value whatever it was: a status read or a reset (R30). -/
def Action.clearsToggle (a : Action) : Bool := a.resets || a.command == some .rdstatus

/-- The number of scroll and address writes among some actions (R43). -/
def flipCount (as : List Action) : Nat := as.countP Action.flipsToggle

end Sys2Proof

namespace Sys2Proof.Machine

/-- The parameter record is admitted and `a` is the next transition of the run, `rest` what comes after it. -/
def State.Facing (s : State) (a : Action) (rest : List Action) : Prop := s.cfg.Valid ∧ s.inputs = a :: rest

/-- The next transition of the run is a reset (R221). -/
def State.FacingReset (s : State) : Prop := ∃ a rest, s.inputs = a :: rest ∧ a.resets = true

/-- The next transition of the run is a host command that is one of those `p` holds of. -/
def State.FacingCommand (s : State) (p : Instr → Prop) : Prop :=
  ∃ a rest i, s.inputs = a :: rest ∧ a.command = some i ∧ p i

/-- `t` holds the reset values of R44 with the parameters `c`; every byte of the memories and of the sprite table is the
free byte of reset number `n`, and no listing of them is left. -/
structure State.IsReset (t : State) (c : Config) (n : Nat) : Prop where
  params : t.cfg = c
  control : t.ctrl1 = 0#8 ∧ t.ctrl2 = 0#8 ∧ t.status = 0#8
  oam : t.oamAddr = 0#8 ∧ t.oamData = 0#8
  scroll : t.scrollX = 0#8 ∧ t.scrollY = 0#8
  address : t.vaddr = 0#16
  toggle : t.w = false
  queueEmpty : t.queue = []
  shadows : t.nextCtrl1 = 0#8 ∧ t.nextCtrl2 = 0#8 ∧ t.nextScrollX = 0#8 ∧ t.nextScrollY = 0#8
  frameSync : t.scrdis = false ∧ t.pend = false ∧ t.shutReq = false ∧ t.fsc = .waitingForSync
  log : t.err = 0#8 ∧ t.lastErr = 0#4
  nametable : ∀ i, t.ntByte i = Config.freeNt n i
  attributes : ∀ i, t.atByte i = Config.freeAt n i
  sprites : ∀ i f, t.sprByte i f = Config.freeSpr n (slotCell i f)
  resetNumber : t.epoch = n

/-- The two halves of each pair, written to the scroll port one after the other. -/
def scrollWrites : List (Byte × Byte) → List Action
  | [] => []
  | (x, y) :: ps => issue (.wrscroll x) :: issue (.wrscroll y) :: scrollWrites ps

/-- The data of the newest entry for an address, if the queue holds one: the entry whose byte is left there by a flush in
FIFO order (R32). -/
def newestFor (q : List Entry) (a : Addr) : Option Byte := (q.reverse.find? fun e => e.addr == a).map Entry.data

/-- The address is backed by one of the two memories (R61). -/
def State.backed (s : State) (a : Addr) : Bool := s.inNt a || s.inAt a

end Sys2Proof.Machine
end

