-- ==== Sys2Proof/Certificates/Slice0/Obligations.lean ====
section
/-! DEFINITION. The statements for the provers. A docstring names the rules a statement formalises; where a clause rests on
the model's own choice it names the log entry. -/

open Sys2Proof Sys2Proof.Machine

/-- Each of the sixteen legal words of R104 decodes to the command beside it, and the two illegal words are rejected, each
for its own reason. (R104.) -/
def Obligations.WorkedEncodingsDecode : Prop :=
  decode 0x000000000090#48 = .ok (.wrctrl1 0x90#8) ∧ decode 0x01000000001E#48 = .ok (.wrctrl2 0x1E#8) ∧
  decode 0x050000000005#48 = .ok (.wrscroll 5#8) ∧ decode 0x060000000024#48 = .ok (.wraddr 0x24#8) ∧
  decode 0x070000000024#48 = .ok (.wrdata 0x24#8) ∧ decode 0x120000000000#48 = .ok .rdstatus ∧
  decode 0x160000000000#48 = .ok .rdaddr ∧ decode 0x200000200024#48 = .ok (.enq 0x2000#16 0x24#8) ∧
  decode 0x200000200124#48 = .ok (.enq 0x2001#16 0x24#8) ∧ decode 0x210000000000#48 = .ok .rdqlen ∧
  decode 0x320000000300#48 = .ok (.setnscroll 3#8 0#8) ∧ decode 0x340000000000#48 = .ok (.cbret 0#8) ∧
  decode 0x340000000001#48 = .ok (.cbret 1#8) ∧
  decode 0x400110203001#48 = .ok (.sprset 1#8 0x10#8 0x20#8 0x30#8 0x01#8) ∧
  decode 0x420100000000#48 = .ok (.sprget 1#8) ∧ decode 0x7F0000000000#48 = .ok .reinit ∧
  decode 0x120000000001#48 = .error (.mustBeZero 0x120000000001#48) ∧
  decode 0x020000000000#48 = .error (.reservedOpcode 0x02#8)

/-- For every command of the opcode map and every value of its operands, the decoder reads the encoder's word as that
command. (R91, R93, R94.) -/
def Obligations.DecodeOfEncodeIsIdentity : Prop :=
  ∀ i : Instr, decode (encode i) = .ok i

/-- If a word decodes to a command, encoding that command gives the word back: no bit of a legal word is dropped, and no
two words decode to one command. (R91, R92, R100.) -/
def Obligations.EncodeOfDecodeIsIdentity : Prop :=
  ∀ (w : CmdWord) (i : Instr), decode w = .ok i → encode i = w

/-- The masks of the six formats are those of R92, a row's match is its opcode shifted left by 40, and for every word and
every row of the opcode map the word decodes to a command of that row iff the word under the row's mask is the row's
match. (R92.) -/
def Obligations.WordIsCommandIffMaskedWordIsMatch : Prop :=
  (Format.n.mask = 0xFFFFFFFFFFFF#48 ∧ Format.b.mask = 0xFFFFFFFFFF00#48 ∧ Format.p.mask = 0xFFFFFFFF0000#48 ∧
    Format.q.mask = 0xFFFFFF000000#48 ∧ Format.i.mask = 0xFF00FFFFFFFF#48 ∧ Format.s.mask = 0xFF0000000000#48) ∧
  ∀ (w : CmdWord) (r : OpRow), r ∈ opcodeMap →
    ((∃ i, decode w = .ok i ∧ (disassemble i).mnemonic = r.mnemonic) ↔
      w &&& r.format.mask = r.op.setWidth 48 <<< 40)

/-- If the opcode of the host's word is none of the 27, or a must-be-zero bit of its format is 1, the step consumes the
word, appends the response (15, 0) and changes nothing else: no error bit, no violation, no abandoned tick. (R100.) -/
def Obligations.IllegalWordHasNoEffect : Prop :=
  ∀ (s : State) (w : CmdWord) (rest : List Action), s.Facing (.host w) rest →
    ((∀ r ∈ opcodeMap, r.op ≠ w.extractLsb' 40 8) ∨
      ∃ r ∈ opcodeMap, r.op = w.extractLsb' 40 8 ∧ w &&& r.format.mask &&& 0x00FFFFFFFFFF#48 ≠ 0#48) →
    step s = .next { s with inputs := rest, resps := ⟨15#4, 0#32⟩ :: s.resps }

/-- A word whose opcode is 0x02, 0x17 or in one of the unused ranges of R101 is rejected as a reserved opcode, whatever
its other bits are. (R101, R100.) -/
def Obligations.ReservedOpcodesAreRejected : Prop :=
  ∀ w : CmdWord,
    (let op := (w.extractLsb' 40 8).toNat
     op = 0x02 ∨ op = 0x17 ∨ (0x08 ≤ op ∧ op ≤ 0x0F) ∨ (0x18 ≤ op ∧ op ≤ 0x1F) ∨ (0x22 ≤ op ∧ op ≤ 0x2F) ∨
       (0x37 ≤ op ∧ op ≤ 0x3F) ∨ (0x43 ≤ op ∧ op ≤ 0x7E) ∨ 0x80 ≤ op) →
    decode w = .error (.reservedOpcode (w.extractLsb' 40 8))

/-- The six bytes of a command's word begin with its opcode, and the byte decoder reads the command from them and leaves
what follows. (R67, R91.) -/
def Obligations.SerialisedCommandsDecodeOpcodeFirst : Prop :=
  ∀ (i : Instr) (rest : List Byte),
    (bytesOfWord (encode i)).length = 6 ∧ (bytesOfWord (encode i)).head? = some ((encode i).extractLsb' 40 8) ∧
    decodeBytes (bytesOfWord (encode i) ++ rest) = .ok (i, rest)

/-- Every command written as a line of R102's script syntax is well formed and assembles to that command. (R102, R93.) -/
def Obligations.ScriptLineOfCommandAssembles : Prop :=
  ∀ i : Instr, (disassemble i).wellFormed = true ∧ assemble (disassemble i) = some i

/-- When the next transition of the run is a host word that decodes to a command, the step is that command's effect on the
state with the word consumed; a word placed by withFetchWord is such a transition (the model's placing, log entry 2).
(R90, R70.) -/
def Obligations.StepRunsTheDecodedCommand : Prop :=
  (∀ (s : State) (w : CmdWord) (rest : List Action) (i : Instr), s.Facing (.host w) rest → decode w = .ok i →
    step s = exec i { s with inputs := rest }) ∧
  ∀ (s : State) (w : CmdWord) (i : Instr), s.cfg.Valid → decode w = .ok i → step (s.withFetchWord 48 w.toNat) = exec i s

/-- The step is refused as a ConfigurationError exactly when the record breaks one of the constraints of R5, each written
out here; the refusal by name is the model's (log entry 9). (R5, R183.) -/
def Obligations.BadParametersBuildNoMachine : Prop :=
  ∀ s : State, step s = .refused .configurationError ↔
    (s.cfg.qcap = 0 ∨ s.cfg.nsprites = 0 ∨ 256 < s.cfg.nsprites ∨ s.cfg.offscreenY.toNat < 240 ∨ s.cfg.ntSize < 2 ∨
     s.cfg.atSize = 0 ∨ 0x10000 < s.cfg.ntBase.toNat + s.cfg.ntSize ∨ 0x10000 < s.cfg.atBase.toNat + s.cfg.atSize ∨
     (s.cfg.atBase.toNat < s.cfg.ntBase.toNat + s.cfg.ntSize ∧ s.cfg.ntBase.toNat < s.cfg.atBase.toNat + s.cfg.atSize) ∨
     s.cfg.incBit = s.cfg.nmiBit ∨ 0x10000 ≤ s.cfg.incLo ∨ 0x10000 ≤ s.cfg.incHi)

/-- EV_SPR0(b) sets STATUS[6] to b and EV_OVF(b) sets STATUS[5] to b, in any state; every other bit of STATUS and
everything else is unchanged, no response is given. (R192, R193.) -/
def Obligations.RasterFlagEventsWriteOnlyTheirBit : Prop :=
  ∀ (s : State) (rest : List Action) (b : Bool),
    (s.Facing (.video (.spr0 b)) rest →
      ∃ v : Byte, step s = .next { s with inputs := rest, status := v } ∧ v.getLsbD 6 = b ∧
        ∀ k, k ≠ 6 → v.getLsbD k = s.status.getLsbD k) ∧
    (s.Facing (.video (.ovf b)) rest →
      ∃ v : Byte, step s = .next { s with inputs := rest, status := v } ∧ v.getLsbD 5 = b ∧
        ∀ k, k ≠ 5 → v.getLsbD k = s.status.getLsbD k)

/-- EV_VBLANK sets STATUS[7] and, when the gate is open, PEND, and changes nothing else; a second one at once changes
nothing more; PEND is set by no other transition; and only a reset and an enabled TickStart clear it: one the inputs
ask for, or one the FSC takes with no input left (that case is the model's choice, log entry 4). (R190, R195, R220.) -/
def Obligations.VblankIsTheOnlyInterrupt : Prop :=
  (∀ (s : State) (rest : List Action), s.Facing (.video .vblank) rest →
    ∃ v : Byte, v.getLsbD 7 = true ∧ (∀ k, k ≠ 7 → v.getLsbD k = s.status.getLsbD k) ∧
      step s = .next { s with
        inputs := rest, status := v,
        pend := if s.cfg.nmiGate = false ∨ s.ctrl1.getLsbD s.cfg.nmiBit = true then true else s.pend }) ∧
  (∀ (s t : State) (rest : List Action), s.Facing (.video .vblank) (.video .vblank :: rest) → step s = .next t →
    step t = .next { t with inputs := rest }) ∧
  (∀ s t : State, step s = .next t → s.pend = false → t.pend = true →
    ∃ rest, s.inputs = .video .vblank :: rest) ∧
  (∀ s t : State, step s = .next t → s.pend = true → t.pend = false →
    s.FacingReset ∨
      (s.fsc = .waitingForSync ∧ s.shutReq = false ∧ (s.inputs = [] ∨ ∃ rest, s.inputs = .fsc .tickStart :: rest)))

/-- EV_SHUTDOWN sets SHUT_REQ and changes nothing else, so it has no immediate effect on FSC; no other transition sets it,
and only a reset clears it; a running tick is never stopped, since Stop exists only in WaitingForSync. (R194.) -/
def Obligations.ShutdownRequestIsSticky : Prop :=
  (∀ (s : State) (rest : List Action), s.Facing (.supervisor .shutdown) rest →
    step s = .next { s with inputs := rest, shutReq := true }) ∧
  (∀ s t : State, step s = .next t → s.shutReq = false → t.shutReq = true →
    ∃ rest, s.inputs = .supervisor .shutdown :: rest) ∧
  (∀ s t : State, step s = .next t → s.shutReq = true → t.shutReq = false → s.FacingReset) ∧
  (∀ s t : State, step s = .next t → s.fsc = .runningTick → t.fsc ≠ .stopped) ∧
  State.reset.shutReq = false

/-- From any state EV_RESET and REINIT leave every register at its value of R44, the queue empty, and every byte of NT, AT
and SPR at the free byte of the next reset number; the inputs to come and the responses returned stay (log entries 7
and 8); REINIT answers (0, 0). The state after the first reset holds the same values. (R44, R220, R221, R157, U1.) -/
def Obligations.ResetGivesTheResetState : Prop :=
  (∀ (s : State) (rest : List Action), s.Facing (.supervisor .reset) rest →
    ∃ t, step s = .next t ∧ t.IsReset s.cfg (s.epoch + 1) ∧ t.inputs = rest ∧ t.resps = s.resps) ∧
  (∀ s : State, ∃ t, exec .reinit s = .next t ∧ t.IsReset s.cfg (s.epoch + 1) ∧ t.inputs = s.inputs ∧
    t.resps = ⟨0#4, 0#32⟩ :: s.resps) ∧
  State.reset.IsReset Config.default 0

/-- For every state with admitted parameters, the flush leaves at each address the byte of the newest entry for it if the
address is backed and an entry names it, and the old byte otherwise; VADDR ends at the last entry's address plus Inc()
modulo 0x10000 and is untouched by an empty flush; the queue is empty; nothing else changes, W included; an empty
flush is a no-op and so is a second flush. (R143.) -/
def Obligations.FlushAppliesEveryEntryInOrder : Prop :=
  ∀ s : State, s.cfg.Valid →
    s.flush = { s with queue := [], vaddr := s.flush.vaddr, ntMem := s.flush.ntMem, atMem := s.flush.atMem } ∧
    (∀ a : Addr, s.flush.vRead a =
      if s.backed a = true ∧ (newestFor s.queue a).isSome = true then newestFor s.queue a else s.vRead a) ∧
    (∀ (es : List Entry) (e : Entry), s.queue = es ++ [e] →
      s.flush.vaddr = BitVec.ofNat 16 ((e.addr.toNat +
        if s.ctrl1.getLsbD s.cfg.incBit = true then s.cfg.incHi else s.cfg.incLo) % 0x10000)) ∧
    (s.queue = [] → s.flush = s) ∧ s.flush.flush = s.flush

/-- When TickStart is enabled and the queue is empty or the flush is legal, the step clears PEND, has exactly the flush's
effect on the memories, VADDR and the queue, and moves FSC to RunningTick, which asserts CB_REQ; nothing else changes
and no response is given. (R195, R145, R144, R197.) -/
def Obligations.TickStartFlushesAndCallsBack : Prop :=
  ∀ (s : State) (rest : List Action), s.Facing (.fsc .tickStart) rest →
    s.fsc = .waitingForSync → s.pend = true → s.shutReq = false →
    (s.queue = [] ∨ s.cfg.flushPolicy = .always ∨ s.ctrl2 &&& s.cfg.rendMask = 0#8 ∨ s.status.getLsbD 7 = true) →
    ∃ t, step s = .next t ∧
      t = { s with
        inputs := rest, pend := false, fsc := .runningTick, queue := [], vaddr := s.flush.vaddr,
        ntMem := s.flush.ntMem, atMem := s.flush.atMem } ∧
      (∀ a : Addr, t.vRead a = s.flush.vRead a) ∧ t.cbReq = true

/-- When TickStart is enabled, the queue is not empty, the policy is not Always, rendering is on and the vblank flag is
clear, the step clears PEND, sets ERR[0] and LASTERR = 1, and changes nothing else: the queue is kept, FSC stays
WaitingForSync, nothing is written back. If the queue is not empty and the flush is legal, it is performed and the
tick begins; with an empty queue it never raises and the flush is a no-op. (R145.) -/
def Obligations.IllegalFlushAbandonsTheTick : Prop :=
  (∀ (s : State) (rest : List Action), s.Facing (.fsc .tickStart) rest →
    s.fsc = .waitingForSync → s.pend = true → s.shutReq = false →
    s.queue ≠ [] → s.cfg.flushPolicy ≠ .always → s.ctrl2 &&& s.cfg.rendMask ≠ 0#8 → s.status.getLsbD 7 = false →
    step s = .next { s with inputs := rest, pend := false, err := s.err ||| 0x01#8, lastErr := 1#4 }) ∧
  (∀ (s : State) (rest : List Action), s.Facing (.fsc .tickStart) rest →
    s.fsc = .waitingForSync → s.pend = true → s.shutReq = false → s.queue ≠ [] →
    (s.cfg.flushPolicy = .always ∨ s.ctrl2 &&& s.cfg.rendMask = 0#8 ∨ s.status.getLsbD 7 = true) →
    step s = .next { s.flush with inputs := rest, pend := false, fsc := .runningTick }) ∧
  ∀ (s : State) (rest : List Action), s.Facing (.fsc .tickStart) rest →
    s.fsc = .waitingForSync → s.pend = true → s.shutReq = false → s.queue = [] →
    step s = .next { s with inputs := rest, pend := false, fsc := .runningTick }

/-- TickStart is taken iff FSC is WaitingForSync, PEND is 1 and SHUT_REQ is 0; Stop is taken iff FSC is WaitingForSync and
SHUT_REQ is 1, and then only moves FSC to Stopped; a step that is not enabled is refused by name (log entry 3); so
with both a wake-up and a shutdown pending only Stop exists. (R195, R196, R199.) -/
def Obligations.FscStepsExistOnlyWhenEnabled : Prop :=
  ∀ (s : State) (rest : List Action),
    (s.Facing (.fsc .tickStart) rest →
      ((∃ t, step s = .next t) ↔ s.fsc = .waitingForSync ∧ s.pend = true ∧ s.shutReq = false) ∧
      (¬ (s.fsc = .waitingForSync ∧ s.pend = true ∧ s.shutReq = false) →
        step s = .refused (.stepNotEnabled .tickStart))) ∧
    (s.Facing (.fsc .stop) rest →
      (s.fsc = .waitingForSync ∧ s.shutReq = true → step s = .next { s with inputs := rest, fsc := .stopped }) ∧
      (¬ (s.fsc = .waitingForSync ∧ s.shutReq = true) → step s = .refused (.stepNotEnabled .stop)))

/-- If a step changes FSC, it is a TickStart from WaitingForSync to RunningTick, a CBRET or a command that raised a
violation from RunningTick to WaitingForSync, a Stop from WaitingForSync to Stopped, or a reset to WaitingForSync.
With no input left the FSC takes its own enabled step: that is the model's choice, log entry 4. (R158, R195, R196,
R182, R154.) -/
def Obligations.FscMovesOnlyAlongItsTable : Prop :=
  ∀ s t : State, step s = .next t → t.fsc ≠ s.fsc →
    (s.fsc = .waitingForSync ∧ t.fsc = .runningTick ∧ s.pend = true ∧ s.shutReq = false ∧
      (s.inputs = [] ∨ ∃ rest, s.inputs = .fsc .tickStart :: rest)) ∨
    (s.fsc = .runningTick ∧ t.fsc = .waitingForSync ∧
      (s.FacingCommand (fun i => ∃ d, i = .cbret d) ∨
       (s.FacingCommand (fun i => ∃ a d, i = .enq a d) ∧ t.lastErr = 3#4 ∧ t.err.getLsbD 2 = true) ∨
       (s.FacingCommand (fun i => (∃ idx x y u v, i = .sprset idx x y u v) ∨ ∃ idx, i = .sprget idx) ∧
         t.lastErr = 2#4 ∧ t.err.getLsbD 1 = true))) ∨
    (s.fsc = .waitingForSync ∧ t.fsc = .stopped ∧ s.shutReq = true ∧
      (s.inputs = [] ∨ ∃ rest, s.inputs = .fsc .stop :: rest)) ∨
    (t.fsc = .waitingForSync ∧ s.FacingReset)

/-- When no input is left, an enabled TickStart or Stop is taken, and the step is the very step that a run asking for it
takes: TickStart enters the tick (flush, callback, or violation 1), Stop only moves FSC to Stopped. If neither is
enabled the run ends in a fault that names the wait: no vblank, a callback that never returns, or a stopped loop. All
of it is the model's choice (log entry 4). (R206, R207, R241.) -/
def Obligations.QuiescentStatesStopByName : Prop :=
  ∀ s : State, s.cfg.Valid → s.inputs = [] →
    (s.fsc = .waitingForSync → s.shutReq = true →
      step s = .next { s with fsc := .stopped } ∧ step s = step { s with inputs := [.fsc .stop] }) ∧
    (s.fsc = .waitingForSync → s.shutReq = false → s.pend = true →
      step s = .next s.enterTick ∧ step s = step { s with inputs := [.fsc .tickStart] }) ∧
    (s.fsc = .waitingForSync → s.shutReq = false → s.pend = false → step s = .fault .waitingForVblank) ∧
    (s.fsc = .runningTick → step s = .fault .callbackNotReturned) ∧
    (s.fsc = .stopped → step s = .fault .loopStopped)

/-- In every state WRCTRL1 writes CTRL1, WRCTRL2 writes CTRL2, SETNCTRL1 writes NEXT_CTRL1 and SETSCRDIS writes SCRDIS
with d[0]; each answers (0, 0) and changes nothing else. (R110, R111, R150, R153.) -/
def Obligations.ControlWritesOverwriteUnconditionally : Prop :=
  ∀ (d : Byte) (s : State),
    exec (.wrctrl1 d) s = .next { s with ctrl1 := d, resps := ⟨0#4, 0#32⟩ :: s.resps } ∧
    exec (.wrctrl2 d) s = .next { s with ctrl2 := d, resps := ⟨0#4, 0#32⟩ :: s.resps } ∧
    exec (.setnctrl1 d) s = .next { s with nextCtrl1 := d, resps := ⟨0#4, 0#32⟩ :: s.resps } ∧
    exec (.setscrdis d) s = .next { s with scrdis := d.getLsbD 0, resps := ⟨0#4, 0#32⟩ :: s.resps }

/-- In every state SETNCTRL2 writes NEXT_CTRL2 and SETNSCROLL writes NEXT_SCROLL_X and NEXT_SCROLL_Y together; each
answers (0, 0) and changes nothing else, the live registers and W included. Their words are op 0x31 format B and op
0x32 format P. (R151, R152.) -/
def Obligations.ShadowWritesLeaveLiveRegistersAlone : Prop :=
  ∀ (d x y : Byte) (s : State),
    exec (.setnctrl2 d) s = .next { s with nextCtrl2 := d, resps := ⟨0#4, 0#32⟩ :: s.resps } ∧
    exec (.setnscroll x y) s =
      .next { s with nextScrollX := x, nextScrollY := y, resps := ⟨0#4, 0#32⟩ :: s.resps } ∧
    encode (.setnctrl2 d) = 0x310000000000#48 ||| d.setWidth 48 ∧
    encode (.setnscroll x y) = 0x320000000000#48 ||| x.setWidth 48 <<< 8 ||| y.setWidth 48

/-- WROAMADDR and WROAMDATA write their cell and nothing else (no increment, no sprite byte, no W); RDOAMADDR and
RDOAMDATA return the cell zero-extended and change nothing. Their words are op 0x03, 0x04 (format B) and 0x13, 0x14
(format N). After reset OAMDATA reads 0. (R112, R113, R120, R121.) -/
def Obligations.OamPortsArePlainCells : Prop :=
  (∀ (d : Byte) (s : State),
    exec (.wroamaddr d) s = .next { s with oamAddr := d, resps := ⟨0#4, 0#32⟩ :: s.resps } ∧
    exec (.wroamdata d) s = .next { s with oamData := d, resps := ⟨0#4, 0#32⟩ :: s.resps } ∧
    exec .rdoamaddr s = .next { s with resps := ⟨0#4, s.oamAddr.setWidth 32⟩ :: s.resps } ∧
    exec .rdoamdata s = .next { s with resps := ⟨0#4, s.oamData.setWidth 32⟩ :: s.resps } ∧
    encode (.wroamaddr d) = 0x030000000000#48 ||| d.setWidth 48 ∧
    encode (.wroamdata d) = 0x040000000000#48 ||| d.setWidth 48) ∧
  encode .rdoamaddr = 0x130000000000#48 ∧ encode .rdoamdata = 0x140000000000#48 ∧ State.reset.oamData = 0#8

/-- With W = 0 WRSCROLL writes SCROLL_X and sets W; with W = 1 it writes SCROLL_Y and clears W; it answers (0, 0) and
changes nothing else. (R114, R30.) -/
def Obligations.ScrollWriteFollowsTheToggle : Prop :=
  ∀ (d : Byte) (s : State),
    (s.w = false → exec (.wrscroll d) s =
      .next { s with scrollX := d, w := true, resps := ⟨0#4, 0#32⟩ :: s.resps }) ∧
    (s.w = true → exec (.wrscroll d) s =
      .next { s with scrollY := d, w := false, resps := ⟨0#4, 0#32⟩ :: s.resps })

/-- With W = 0 WRADDR writes VADDR[15:8], at once visible, and keeps VADDR[7:0]; with W = 1 it writes VADDR[7:0] and keeps
VADDR[15:8]; it flips W, answers (0, 0) and changes nothing else. (R115, R28.) -/
def Obligations.AddressWriteFollowsTheToggle : Prop :=
  ∀ (d : Byte) (s : State), ∃ v : Addr,
    exec (.wraddr d) s = .next { s with vaddr := v, w := !s.w, resps := ⟨0#4, 0#32⟩ :: s.resps } ∧
    (s.w = false → v.extractLsb' 8 8 = d ∧ v.extractLsb' 0 8 = s.vaddr.extractLsb' 0 8) ∧
    (s.w = true → v.extractLsb' 0 8 = d ∧ v.extractLsb' 8 8 = s.vaddr.extractLsb' 8 8)

/-- In every state with admitted parameters, whatever the flush window, WRDATA leaves its byte at the old VADDR if that
address is backed and every other address as it was; VADDR becomes the old VADDR plus INC_HI or INC_LO (by CTRL1's
increment bit) modulo 0x10000 whether or not it was backed; it answers (0, 0) and changes nothing else, W included.
Its word is op 0x07 of format B. (R116, R62, R66.) -/
def Obligations.DataPortStoresThenIncrements : Prop :=
  ∀ (d : Byte) (s : State), s.cfg.Valid → ∃ t, exec (.wrdata d) s = .next t ∧
    t = { s with vaddr := t.vaddr, ntMem := t.ntMem, atMem := t.atMem, resps := ⟨0#4, 0#32⟩ :: s.resps } ∧
    t.vaddr.toNat = (s.vaddr.toNat +
      if s.ctrl1.getLsbD s.cfg.incBit = true then s.cfg.incHi else s.cfg.incLo) % 0x10000 ∧
    (∀ a : Addr, t.vRead a = if a = s.vaddr ∧ s.backed a = true then some d else s.vRead a) ∧
    (t.ntMem = s.ntMem ∨ t.atMem = s.atMem) ∧
    (s.backed s.vaddr = false → t.ntMem = s.ntMem ∧ t.atMem = s.atMem) ∧
    encode (.wrdata d) = 0x070000000000#48 ||| d.setWidth 48

/-- For admitted parameters, VRead of an address in the NT range is that position of NT, in the AT range that position of
AT, and at any other address it has no value. (R63.) -/
def Obligations.SnapshotReadsOnlyBackedAddresses : Prop :=
  ∀ (s : State) (a : Addr), s.cfg.Valid →
    (s.cfg.ntBase.toNat ≤ a.toNat ∧ a.toNat < s.cfg.ntBase.toNat + s.cfg.ntSize →
      s.vRead a = some (s.ntByte (a.toNat - s.cfg.ntBase.toNat))) ∧
    (s.cfg.atBase.toNat ≤ a.toNat ∧ a.toNat < s.cfg.atBase.toNat + s.cfg.atSize →
      s.vRead a = some (s.atByte (a.toNat - s.cfg.atBase.toNat))) ∧
    (¬ (s.cfg.ntBase.toNat ≤ a.toNat ∧ a.toNat < s.cfg.ntBase.toNat + s.cfg.ntSize) →
      ¬ (s.cfg.atBase.toNat ≤ a.toNat ∧ a.toNat < s.cfg.atBase.toNat + s.cfg.atSize) → s.vRead a = none)

/-- Each answers (0, value): CTRL1, CTRL2, the pair with X in bits 15:8 and Y in bits 7:0, and VADDR, zero-extended;
nothing else changes, W included. Their words are op 0x10, 0x11, 0x15 and 0x16 of format N. (R117, R118, R122, R123.) -/
def Obligations.PortReadsReturnTheRegister : Prop :=
  (∀ s : State,
    exec .rdctrl1 s = .next { s with resps := ⟨0#4, s.ctrl1.setWidth 32⟩ :: s.resps } ∧
    exec .rdctrl2 s = .next { s with resps := ⟨0#4, s.ctrl2.setWidth 32⟩ :: s.resps } ∧
    exec .rdscroll s = .next { s with resps := ⟨0#4, (s.scrollX ++ s.scrollY).setWidth 32⟩ :: s.resps } ∧
    exec .rdaddr s = .next { s with resps := ⟨0#4, s.vaddr.setWidth 32⟩ :: s.resps }) ∧
  encode .rdctrl1 = 0x100000000000#48 ∧ encode .rdctrl2 = 0x110000000000#48 ∧
  encode .rdscroll = 0x150000000000#48 ∧ encode .rdaddr = 0x160000000000#48

/-- RDSTATUS answers (0, STATUS before the side effects), bits 4:0 reading 0, clears STATUS[7] and W, keeps every other
bit of STATUS, and changes nothing else, PEND included. Its word is op 0x12 of format N. (R119.) -/
def Obligations.StatusReadClearsVblankAndToggle : Prop :=
  (∀ s : State, ∃ v : Byte,
    exec .rdstatus s = .next { s with
      status := v, w := false, resps := ⟨0#4, (s.status &&& 0xE0#8).setWidth 32⟩ :: s.resps } ∧
    v.getLsbD 7 = false ∧ ∀ k, k ≠ 7 → v.getLsbD k = s.status.getLsbD k) ∧
  encode .rdstatus = 0x120000000000#48

/-- If the queue does not hold QCAP entries ENQ appends (addr, d) at its end, answers (0, 0) and changes nothing else; if
it does, the entry is not stored, ERR[2] is set, LASTERR = 3, a running tick is abandoned, the answer is (3, 0) and
nothing else changes. Its word is op 0x20 of format Q. (R140.) -/
def Obligations.EnqueueAppendsOrReportsOverflow : Prop :=
  ∀ (a : Addr) (d : Byte) (s : State),
    (s.queue.length ≠ s.cfg.qcap → exec (.enq a d) s =
      .next { s with queue := s.queue ++ [⟨a, d⟩], resps := ⟨0#4, 0#32⟩ :: s.resps }) ∧
    (s.queue.length = s.cfg.qcap → exec (.enq a d) s =
      .next { s with
        err := s.err ||| 0x04#8, lastErr := 3#4,
        fsc := if s.fsc = .runningTick then .waitingForSync else s.fsc,
        resps := ⟨3#4, 0#32⟩ :: s.resps }) ∧
    encode (.enq a d) = 0x200000000000#48 ||| a.setWidth 48 <<< 8 ||| d.setWidth 48

/-- RDERR answers (0, v) with ERR in v[7:0] (bits 7:4 reading 0), LASTERR in v[11:8] and zeros above; RDFSC answers (0, v)
with the code of FSC in v[1:0], PEND in v[2], SHUT_REQ in v[3], SCRDIS in v[4] and zeros above; nothing else changes.
Their words are op 0x35 and 0x36 of format N. (R155, R156.) -/
def Obligations.ReadOutsPackTheirFields : Prop :=
  (∀ s : State, ∃ v : RespData, exec .rderr s = .next { s with resps := ⟨0#4, v⟩ :: s.resps } ∧
    v.extractLsb' 0 8 = s.err &&& 0x0F#8 ∧ v.extractLsb' 8 4 = s.lastErr ∧ v.extractLsb' 12 20 = 0#20) ∧
  (∀ s : State, ∃ v : RespData, exec .rdfsc s = .next { s with resps := ⟨0#4, v⟩ :: s.resps } ∧
    (s.fsc = .waitingForSync → v.extractLsb' 0 2 = 0#2) ∧ (s.fsc = .runningTick → v.extractLsb' 0 2 = 1#2) ∧
    (s.fsc = .stopped → v.extractLsb' 0 2 = 2#2) ∧ v.getLsbD 2 = s.pend ∧ v.getLsbD 3 = s.shutReq ∧
    v.getLsbD 4 = s.scrdis ∧ v.extractLsb' 5 27 = 0#27) ∧
  encode .rderr = 0x350000000000#48 ∧ encode .rdfsc = 0x360000000000#48

/-- RDQLEN answers (0, QLEN) and changes nothing else; a length that does not fit 32 bits is returned modulo 2 to the 32
(the model's reading, log entry 13). (R141.) -/
def Obligations.QueueLengthReadReturnsQlen : Prop :=
  ∀ s : State, exec .rdqlen s = .next { s with resps := ⟨0#4, BitVec.ofNat 32 s.queue.length⟩ :: s.resps }

/-- Outside RunningTick CBRET answers (5, 0) and changes nothing else; in a tick with d[0] = 1 it sets ERR[3], LASTERR = 4
and FSC = WaitingForSync and answers (4, 0) with no write-back; in a tick with d[0] = 0 it copies NEXT_CTRL1, and
unless SCRDIS = 1 NEXT_CTRL2 and the NEXT scroll pair, into the live registers, sets FSC = WaitingForSync and answers
(0, 0); nothing else changes, W, PEND and the shadows included. Its word is op 0x34 of format B. (R154.) -/
def Obligations.CallbackReturnWritesBack : Prop :=
  ∀ (d : Byte) (s : State),
    (s.fsc ≠ .runningTick → exec (.cbret d) s = .next { s with resps := ⟨5#4, 0#32⟩ :: s.resps }) ∧
    (s.fsc = .runningTick → d.getLsbD 0 = true → exec (.cbret d) s =
      .next { s with
        err := s.err ||| 0x08#8, lastErr := 4#4, fsc := .waitingForSync, resps := ⟨4#4, 0#32⟩ :: s.resps }) ∧
    (s.fsc = .runningTick → d.getLsbD 0 = false → exec (.cbret d) s =
      .next { s with
        ctrl1 := s.nextCtrl1,
        ctrl2 := if s.scrdis = true then s.ctrl2 else s.nextCtrl2,
        scrollX := if s.scrdis = true then s.scrollX else s.nextScrollX,
        scrollY := if s.scrdis = true then s.scrollY else s.nextScrollY,
        fsc := .waitingForSync, resps := ⟨0#4, 0#32⟩ :: s.resps }) ∧
    encode (.cbret d) = 0x340000000000#48 ||| d.setWidth 48

/-- If idx < NSPRITES (slot 0 included, any y), the four fields of that slot become x, y, tile and attr, every other field
of every slot is unchanged, the answer is (0, 0) and nothing else changes; otherwise no slot is written, ERR[1] is
set, LASTERR = 2, a running tick is abandoned and the answer is (2, 0). Its word is op 0x40 of format S. (R170.) -/
def Obligations.SpriteSetWritesOneSlot : Prop :=
  ∀ (idx x y u v : Byte) (s : State),
    (idx.toNat < s.cfg.nsprites → ∃ t, exec (.sprset idx x y u v) s = .next t ∧
      t = { s with sprMem := t.sprMem, resps := ⟨0#4, 0#32⟩ :: s.resps } ∧
      t.sprByte idx.toNat .x = x ∧ t.sprByte idx.toNat .y = y ∧ t.sprByte idx.toNat .tile = u ∧
      t.sprByte idx.toNat .attr = v ∧ ∀ j f, j ≠ idx.toNat → t.sprByte j f = s.sprByte j f) ∧
    (s.cfg.nsprites ≤ idx.toNat → exec (.sprset idx x y u v) s =
      .next { s with
        err := s.err ||| 0x02#8, lastErr := 2#4,
        fsc := if s.fsc = .runningTick then .waitingForSync else s.fsc,
        resps := ⟨2#4, 0#32⟩ :: s.resps }) ∧
    encode (.sprset idx x y u v) = 0x400000000000#48 ||| idx.setWidth 48 <<< 32 ||| x.setWidth 48 <<< 24 |||
      y.setWidth 48 <<< 16 ||| u.setWidth 48 <<< 8 ||| v.setWidth 48

/-- SPRCLR leaves slot 0 unchanged, sets y of slots 1 to NSPRITES-1 to OFFSCREEN_Y, keeps x, tile and attr of every slot,
answers (0, 0) and changes nothing else; a second one changes no field. Its word is op 0x41 of format N. (R171.) -/
def Obligations.SpriteClearHidesAllButSlotZero : Prop :=
  (∀ s : State, ∃ t, exec .sprclr s = .next t ∧
    t = { s with sprMem := t.sprMem, resps := ⟨0#4, 0#32⟩ :: s.resps } ∧
    (∀ j f, t.sprByte j f = if 1 ≤ j ∧ j < s.cfg.nsprites ∧ f = .y then s.cfg.offscreenY else s.sprByte j f) ∧
    ∀ u, exec .sprclr t = .next u → ∀ j f, u.sprByte j f = t.sprByte j f) ∧
  encode .sprclr = 0x410000000000#48

/-- If idx < NSPRITES the answer is (0, v) with x in v[31:24], y in v[23:16], tile in v[15:8] and attr in v[7:0], and
nothing else changes; otherwise ERR[1] is set, LASTERR = 2, a running tick is abandoned and the answer is (2, 0). Its
word is op 0x42 of format I. (R172.) -/
def Obligations.SpriteGetReturnsTheSlot : Prop :=
  ∀ (idx : Byte) (s : State),
    (idx.toNat < s.cfg.nsprites → ∃ v : RespData,
      exec (.sprget idx) s = .next { s with resps := ⟨0#4, v⟩ :: s.resps } ∧
      v.extractLsb' 24 8 = s.sprByte idx.toNat .x ∧ v.extractLsb' 16 8 = s.sprByte idx.toNat .y ∧
      v.extractLsb' 8 8 = s.sprByte idx.toNat .tile ∧ v.extractLsb' 0 8 = s.sprByte idx.toNat .attr) ∧
    (s.cfg.nsprites ≤ idx.toNat → exec (.sprget idx) s =
      .next { s with
        err := s.err ||| 0x02#8, lastErr := 2#4,
        fsc := if s.fsc = .runningTick then .waitingForSync else s.fsc,
        resps := ⟨2#4, 0#32⟩ :: s.resps }) ∧
    encode (.sprget idx) = 0x420000000000#48 ||| idx.setWidth 48 <<< 32

/-- In every state every command gives a next state with one more response, whose code is 0, 2, 3, 4 or 5 and whose data
is 0 unless the code is 0; the inputs to come and the parameter record are unchanged. (R96, R90, R4.) -/
def Obligations.EveryCommandAnswersOnce : Prop :=
  ∀ (i : Instr) (s : State), ∃ (t : State) (c : RespCode) (v : RespData),
    exec i s = .next t ∧ t.resps = ⟨c, v⟩ :: s.resps ∧ (c = 0#4 ∨ c = 2#4 ∨ c = 3#4 ∨ c = 4#4 ∨ c = 5#4) ∧
    (c ≠ 0#4 → v = 0#32) ∧ t.inputs = s.inputs ∧ t.cfg = s.cfg

/-- raise CV(k) sets ERR[k-1] and LASTERR = k and moves a running FSC to WaitingForSync, nothing else; and a command
answered with a violation's number k changed nothing but that and the response; a TickStart that did not enter the
tick cleared PEND, raised violation 1 and did nothing else. (R182.) -/
def Obligations.ViolationsArePrecise : Prop :=
  (∀ (s : State) (v : Violation), s.raise v = { s with
    err := s.err ||| 1#8 <<< ((violationNumber v).toNat - 1), lastErr := violationNumber v,
    fsc := if s.fsc = .runningTick then .waitingForSync else s.fsc }) ∧
  (∀ (i : Instr) (s t : State) (c : RespCode) (v : RespData) (rs : List Resp), exec i s = .next t →
    t.resps = ⟨c, v⟩ :: rs → (c = 2#4 ∨ c = 3#4 ∨ c = 4#4) →
    t = { s with
      err := s.err ||| 1#8 <<< (c.toNat - 1), lastErr := c,
      fsc := if s.fsc = .runningTick then .waitingForSync else s.fsc,
      resps := ⟨c, 0#32⟩ :: s.resps }) ∧
  ∀ (s t : State) (rest : List Action), s.Facing (.fsc .tickStart) rest → step s = .next t → t.fsc ≠ .runningTick →
    t = { s with inputs := rest, pend := false, err := s.err ||| 1#8, lastErr := 1#4 }

/-- From every state, reached or not, in which the parameters are admitted, the queue holds at most QCAP entries, ERR[7:4]
and STATUS[4:0] are 0, LASTERR is at most 4 and the three memories are in canonical form within their sizes, every
step gives such a state. (R42, R32, R33, R35, R24, R40.) -/
def Obligations.InvariantKeptByEveryStep : Prop :=
  ∀ s t : State, s.Inv → step s = .next t → t.Inv

/-- The state right after the first reset meets the invariant and its error log agrees with itself and is clean, for the
defaults of R4 and for every admitted record. (R44, R42.) -/
def Obligations.InvariantHoldsAfterReset : Prop :=
  State.reset.Inv ∧ ∀ c : Config, c.Valid → (State.boot c).Inv ∧ (State.boot c).LogAgrees ∧ (State.boot c).Clean

/-- Every step keeps the error log in agreement: nothing is logged, or LASTERR is the number of a violation whose bit of
ERR is set; and a set bit of ERR stays set in every step that is no reset. (R40, R31, R182.) -/
def Obligations.ErrorLogStaysConsistentAndSticky : Prop :=
  (∀ s t : State, s.LogAgrees → step s = .next t → t.LogAgrees) ∧
  ∀ (s t : State) (k : Nat), step s = .next t → s.err.getLsbD k = true → t.err.getLsbD k = false → s.FacingReset

/-- From any state with W = 0, after any sequence of host words, events and FSC steps with no status read and no reset
among them, W = N mod 2 for the number N of scroll and address writes in the sequence; and a scroll or address write
issued then writes the first half (X, the high byte) if N is even and the second half (Y, the low byte) if N is odd.
(R43.) -/
def Obligations.ToggleIsParityOfPortWrites : Prop :=
  ∀ (s t : State) (as rest : List Action), s.w = false → s.inputs = as ++ rest →
    (∀ a ∈ as, a.clearsToggle = false) → Sys2Proof.core.run as.length s = .next t →
    t.w = decide (flipCount as % 2 = 1) ∧
    ∀ d : Byte, (∃ u, exec (.wrscroll d) t = .next u ∧
        (flipCount as % 2 = 0 → u.scrollX = d ∧ u.scrollY = t.scrollY) ∧
        (flipCount as % 2 = 1 → u.scrollX = t.scrollX ∧ u.scrollY = d)) ∧
      ∃ u, exec (.wraddr d) t = .next u ∧
        (flipCount as % 2 = 0 → u.vaddr.extractLsb' 8 8 = d ∧ u.vaddr.extractLsb' 0 8 = t.vaddr.extractLsb' 0 8) ∧
        (flipCount as % 2 = 1 → u.vaddr.extractLsb' 8 8 = t.vaddr.extractLsb' 8 8 ∧ u.vaddr.extractLsb' 0 8 = d)

/-- If a step changes W, its transition is a scroll or address write, which flipped it, or a status read or reset, which
left it 0. (R30, R31.) -/
def Obligations.ToggleWrittenOnlyByItsFour : Prop :=
  ∀ s t : State, step s = .next t → t.w ≠ s.w →
    ∃ a rest, s.inputs = a :: rest ∧ (a.flipsToggle = true ∨ (a.clearsToggle = true ∧ t.w = false))

/-- With admitted parameters, a sequence of inputs with no FSC step in it, illegal words included, runs through without a
stop, consuming exactly those inputs. (R90, R206, R9.) -/
def Obligations.RunsOfCommandsAndEventsComplete : Prop :=
  ∀ (s : State) (as rest : List Action), s.cfg.Valid → s.inputs = as ++ rest →
    (∀ a ∈ as, ∀ k, a ≠ .fsc k) → ∃ t, Sys2Proof.core.run as.length s = .next t ∧ t.inputs = rest ∧ t.cfg = s.cfg

/-- From W = 0, WRSCROLL a then WRADDR b leaves SCROLL_X = a, VADDR[7:0] = b, VADDR[15:8] unchanged and W = 0; WRADDR a
then WRSCROLL b leaves VADDR[15:8] = a, SCROLL_Y = b, VADDR[7:0] and SCROLL_X unchanged and W = 0. (R125.) -/
def Obligations.BothPortsShareOneToggle : Prop :=
  ∀ (s : State) (a b : Byte) (rest : List Action), s.cfg.Valid → s.w = false →
    (s.inputs = issue (.wrscroll a) :: issue (.wraddr b) :: rest →
      ∃ t, Sys2Proof.core.run 2 s = .next t ∧ t.scrollX = a ∧ t.vaddr.extractLsb' 0 8 = b ∧
        t.vaddr.extractLsb' 8 8 = s.vaddr.extractLsb' 8 8 ∧ t.scrollY = s.scrollY ∧ t.w = false) ∧
    (s.inputs = issue (.wraddr a) :: issue (.wrscroll b) :: rest →
      ∃ t, Sys2Proof.core.run 2 s = .next t ∧ t.vaddr.extractLsb' 8 8 = a ∧ t.scrollY = b ∧
        t.vaddr.extractLsb' 0 8 = s.vaddr.extractLsb' 0 8 ∧ t.scrollX = s.scrollX ∧ t.w = false)

/-- From W = 0, any number of pairs of scroll writes ending in the pair (x, y), with no status read and no address write
between, leaves SCROLL_X = x, SCROLL_Y = y and W = 0, one response a write and nothing else changed. (R114, R43.) -/
def Obligations.ScrollPairIsTheLastTwoWrites : Prop :=
  ∀ (s : State) (ps : List (Byte × Byte)) (x y : Byte) (rest : List Action), s.cfg.Valid → s.w = false →
    s.inputs = scrollWrites (ps ++ [(x, y)]) ++ rest →
    ∃ t, Sys2Proof.core.run (2 * (ps.length + 1)) s = .next t ∧
      t = { s with scrollX := x, scrollY := y, inputs := rest, resps := t.resps } ∧
      t.resps.length = s.resps.length + 2 * (ps.length + 1)

/-- From W = 0, WRSCROLL a, RDSTATUS, WRSCROLL b leaves SCROLL_X = b, SCROLL_Y unchanged and W = 1; WRADDR a, RDSTATUS,
WRADDR b leaves VADDR[15:8] = b, VADDR[7:0] unchanged and W = 1. (R114, R115, R119.) -/
def Obligations.StatusReadAbandonsTheHalfPair : Prop :=
  ∀ (s : State) (a b : Byte) (rest : List Action), s.cfg.Valid → s.w = false →
    (s.inputs = issue (.wrscroll a) :: issue .rdstatus :: issue (.wrscroll b) :: rest →
      ∃ t, Sys2Proof.core.run 3 s = .next t ∧ t.scrollX = b ∧ t.scrollY = s.scrollY ∧ t.w = true) ∧
    (s.inputs = issue (.wraddr a) :: issue .rdstatus :: issue (.wraddr b) :: rest →
      ∃ t, Sys2Proof.core.run 3 s = .next t ∧ t.vaddr.extractLsb' 8 8 = b ∧
        t.vaddr.extractLsb' 0 8 = s.vaddr.extractLsb' 0 8 ∧ t.w = true)

/-- The expansions of the pseudo-commands SETSCROLL x, y and SETADDR a, run from any state, leave SCROLL = (x, y),
respectively VADDR = a, with W = 0 and the vblank flag clear. (R103, R230.) -/
def Obligations.PseudoWritesAreCorrectFromAnyToggle : Prop :=
  ∀ (s : State) (x y : Byte) (a : Addr) (rest : List Action), s.cfg.Valid →
    (s.inputs = ((Pseudo.setscroll x y).expand s.cfg.offscreenY).map issue ++ rest →
      ∃ t, Sys2Proof.core.run 3 s = .next t ∧ t.scrollX = x ∧ t.scrollY = y ∧ t.w = false ∧
        t.status.getLsbD 7 = false ∧ t.vaddr = s.vaddr) ∧
    (s.inputs = ((Pseudo.setaddr a).expand s.cfg.offscreenY).map issue ++ rest →
      ∃ t, Sys2Proof.core.run 3 s = .next t ∧ t.vaddr = a ∧ t.w = false ∧ t.status.getLsbD 7 = false ∧
        t.scrollX = s.scrollX ∧ t.scrollY = s.scrollY)

/-- After any command other than REINIT, PEND and SHUT_REQ are unchanged, no bit of STATUS has become 1 and none but bit 7
has become 0 (and that only after RDSTATUS), and the queue is unchanged or has one more entry at its end. (R201, R24,
R32.) -/
def Obligations.HostKeepsToItsRights : Prop :=
  ∀ (i : Instr) (s t : State), i ≠ .reinit → exec i s = .next t →
    t.pend = s.pend ∧ t.shutReq = s.shutReq ∧
    (∀ k, k ≠ 7 → t.status.getLsbD k = s.status.getLsbD k) ∧
    (t.status.getLsbD 7 = s.status.getLsbD 7 ∨ (i = .rdstatus ∧ t.status.getLsbD 7 = false)) ∧
    (t.queue = s.queue ∨ ∃ e, t.queue = s.queue ++ [e])

/-- Two states that differ in W only give the same response to every command. (R30, R41, R156.) -/
def Obligations.NoCommandRevealsTheToggle : Prop :=
  ∀ (i : Instr) (s t t' : State) (b : Bool), exec i s = .next t → exec i { s with w := b } = .next t' →
    t'.resps = t.resps

/-- If a step changes what a VRAM address reads as, it is a WRDATA with VADDR at that address, a TickStart that entered
the tick with an entry for that address in the queue, or a reset. (R35, R142, R62, R146.) -/
def Obligations.VramChangesOnlyThroughTheDataPort : Prop :=
  ∀ (s t : State) (a : Addr), step s = .next t → t.vRead a ≠ s.vRead a →
    (s.FacingCommand (fun i => ∃ d, i = .wrdata d) ∧ a = s.vaddr) ∨
    (s.fsc = .waitingForSync ∧ t.fsc = .runningTick ∧ ∃ e ∈ s.queue, e.addr = a) ∨ s.FacingReset

/-- If a step changes a field of a slot, it is a SPRSET whose index is that slot, a SPRCLR and the field is the y of a
slot other than 0, or a reset. (R33, R170, R171.) -/
def Obligations.SpriteFieldsChangeOnlyByTheirCommands : Prop :=
  ∀ (s t : State) (j : Nat) (f : SlotField), step s = .next t → t.sprByte j f ≠ s.sprByte j f →
    s.FacingCommand (fun i => ∃ idx x y u v, i = .sprset idx x y u v ∧ idx.toNat = j) ∨
    (s.FacingCommand (fun i => i = .sprclr) ∧ 1 ≤ j ∧ j < s.cfg.nsprites ∧ f = .y) ∨ s.FacingReset

/-- Each step leaves the queue as it was, appends the entry of an ENQ at its end, or empties it as a whole by entering a
tick or by a reset: no entry is removed alone, reordered or edited. (R32, R143.) -/
def Obligations.QueueIsFirstInFirstOut : Prop :=
  ∀ s t : State, step s = .next t →
    t.queue = s.queue ∨ (∃ a d, s.FacingCommand (fun i => i = .enq a d) ∧ t.queue = s.queue ++ [⟨a, d⟩]) ∨
    (t.queue = [] ∧ ((s.fsc = .waitingForSync ∧ t.fsc = .runningTick) ∨ s.FacingReset))

/-- If a step that is no reset changes CTRL1, CTRL2, OAMADDR, OAMDATA, SCROLL_X, SCROLL_Y, VADDR, a NEXT_ register or
SCRDIS, its transition is one of the writers the register's rule names; the write-back touches CTRL2 and the scroll
pair only while SCRDIS = 0. (R22, R23, R25, R26, R27, R28, R34, R36.) -/
def Obligations.RegistersHaveOnlyTheirWriters : Prop :=
  ∀ s t : State, step s = .next t → ¬ s.FacingReset →
    (t.ctrl1 ≠ s.ctrl1 → s.FacingCommand (fun i => (∃ d, i = .wrctrl1 d) ∨ ∃ d, i = .cbret d)) ∧
    (t.ctrl2 ≠ s.ctrl2 → s.FacingCommand (fun i => (∃ d, i = .wrctrl2 d) ∨ ((∃ d, i = .cbret d) ∧ s.scrdis = false))) ∧
    (t.oamAddr ≠ s.oamAddr → s.FacingCommand (fun i => ∃ d, i = .wroamaddr d)) ∧
    (t.oamData ≠ s.oamData → s.FacingCommand (fun i => ∃ d, i = .wroamdata d)) ∧
    (t.scrollX ≠ s.scrollX ∨ t.scrollY ≠ s.scrollY →
      s.FacingCommand (fun i => (∃ d, i = .wrscroll d) ∨ ((∃ d, i = .cbret d) ∧ s.scrdis = false))) ∧
    (t.vaddr ≠ s.vaddr → s.FacingCommand (fun i => (∃ d, i = .wraddr d) ∨ ∃ d, i = .wrdata d) ∨
      (t.fsc = .runningTick ∧ s.fsc = .waitingForSync)) ∧
    (t.nextCtrl1 ≠ s.nextCtrl1 → s.FacingCommand (fun i => ∃ d, i = .setnctrl1 d)) ∧
    (t.nextCtrl2 ≠ s.nextCtrl2 → s.FacingCommand (fun i => ∃ d, i = .setnctrl2 d)) ∧
    (t.nextScrollX ≠ s.nextScrollX ∨ t.nextScrollY ≠ s.nextScrollY →
      s.FacingCommand (fun i => ∃ x y, i = .setnscroll x y)) ∧
    (t.scrdis ≠ s.scrdis → s.FacingCommand (fun i => ∃ d, i = .setscrdis d))

/-- After RDCTRL1, RDCTRL2, RDOAMADDR, RDOAMDATA, RDSCROLL, RDADDR, RDQLEN, RDERR, RDFSC or SPRGET with a valid index the
snapshot of the block is what it was; after a second RDSTATUS it is what it was after the first, and the second
returns bit 7 = 0. (R71, R205.) -/
def Obligations.ReadsHaveNoSideEffect : Prop :=
  (∀ (i : Instr) (s t : State), exec i s = .next t →
    (i = .rdctrl1 ∨ i = .rdctrl2 ∨ i = .rdoamaddr ∨ i = .rdoamdata ∨ i = .rdscroll ∨ i = .rdaddr ∨ i = .rdqlen ∨
      i = .rderr ∨ i = .rdfsc ∨ ∃ idx : Byte, i = .sprget idx ∧ idx.toNat < s.cfg.nsprites) →
    t.snapshot = s.snapshot) ∧
  ∀ s t u : State, exec .rdstatus s = .next t → exec .rdstatus t = .next u →
    u.snapshot = t.snapshot ∧ ∃ v rs, u.resps = ⟨0#4, v⟩ :: rs ∧ v.getLsbD 7 = false

/-- From the first reset with any admitted parameters, SPRCLR, SETNCTRL1 v, WRCTRL1 v, a vblank and TickStart lead to
RunningTick with every sprite but slot 0 hidden if v has the NMI bit set; if it does not and the gate is on, TickStart
is not enabled after the vblank, and the run ends there in the refusal stepNotEnabled, which is the model's choice
(log entry 3). (R222, R190, R195.) -/
def Obligations.BootSequenceStartsTicks : Prop :=
  ∀ (c : Config) (v : Byte), c.Valid →
    let s : State := { State.boot c with
      inputs := [issue .sprclr, issue (.setnctrl1 v), issue (.wrctrl1 v), .video .vblank, .fsc .tickStart] }
    (v.getLsbD c.nmiBit = true → ∃ t, Sys2Proof.core.run 5 s = .next t ∧ t.fsc = .runningTick ∧
      t.ctrl1 = t.nextCtrl1 ∧ ∀ j, 1 ≤ j → j < c.nsprites → t.sprByte j .y = c.offscreenY) ∧
    (v.getLsbD c.nmiBit = false → c.nmiGate = true →
      Sys2Proof.core.run 5 s = .refused (.stepNotEnabled .tickStart))

/-- In a tick, an ENQ into a full queue (code 3) or a SPRSET or SPRGET whose index is out of range (code 2), followed by
CBRET, answers (code, 0) and (5, 0): ERR gets the violation's bit, LASTERR its number, FSC ends in WaitingForSync, and
nothing else changes: no write-back, the queue and every slot kept. (R236, R182, R154.) -/
def Obligations.CallbackEndsAtItsFirstViolation : Prop :=
  ∀ (s : State) (i : Instr) (k : RespCode) (bit e : Byte) (rest : List Action), s.cfg.Valid → s.fsc = .runningTick →
    (((∃ a d, i = .enq a d) ∧ s.queue.length = s.cfg.qcap ∧ k = 3#4 ∧ bit = 0x04#8) ∨
     ((∃ idx x y u v, i = .sprset idx x y u v ∧ s.cfg.nsprites ≤ idx.toNat) ∧ k = 2#4 ∧ bit = 0x02#8) ∨
     ((∃ idx, i = .sprget idx ∧ s.cfg.nsprites ≤ idx.toNat) ∧ k = 2#4 ∧ bit = 0x02#8)) →
    s.inputs = issue i :: issue (.cbret e) :: rest →
    Sys2Proof.core.run 2 s = .next { s with
      inputs := rest, fsc := .waitingForSync, err := s.err ||| bit, lastErr := k,
      resps := ⟨5#4, 0#32⟩ :: ⟨k, 0#32⟩ :: s.resps }

/-- From RunningTick, through any inputs with no CBRET and no reset among them whose responses show no violation (no code
2, 3 or 4), FSC stays RunningTick and no further tick and no Stop is taken; ENQ, SPRSET and SPRGET that raise nothing
are among those inputs. (R207, R237, R196.) -/
def Obligations.TickHangsWithoutReturn : Prop :=
  ∀ (s t : State) (as rest : List Action) (rs : List Resp), s.fsc = .runningTick → s.inputs = as ++ rest →
    (∀ a ∈ as, a.resets = false ∧ ∀ d, a.command ≠ some (.cbret d)) →
    Sys2Proof.core.run as.length s = .next t → t.resps = rs ++ s.resps →
    (∀ r ∈ rs, r.code ≠ 2#4 ∧ r.code ≠ 3#4 ∧ r.code ≠ 4#4) →
    t.fsc = .runningTick ∧ ∀ k, Action.fsc k ∉ as

/-- A step taken in the wait (FSC = WaitingForSync, PEND = 0, SHUT_REQ = 0) leaves FSC in WaitingForSync, and ends the
wait exactly when it is EV_SHUTDOWN or an EV_VBLANK whose gate is open. Inputs of any number with no shutdown, no FSC
step and no vblank among them, commands, illegal words and resets included, run through and leave the block in the
wait; so do inputs with vblanks among them while the gate is on, CTRL1[NMI_BIT] = 0 and no WRCTRL1 sets that bit.
(R202, R206, R207.) -/
def Obligations.WaitForSyncHasNoTimeout : Prop :=
  ∀ s : State, s.cfg.Valid → s.awaitsSync = true →
    (∀ t, step s = .next t → t.fsc = .waitingForSync ∧
      (t.awaitsSync = false ↔ ∃ rest, s.inputs = .supervisor .shutdown :: rest ∨
        (s.inputs = .video .vblank :: rest ∧ (s.cfg.nmiGate = false ∨ s.ctrl1.getLsbD s.cfg.nmiBit = true)))) ∧
    ∀ as rest : List Action, s.inputs = as ++ rest → (∀ a ∈ as, a ≠ .supervisor .shutdown ∧ ∀ k, a ≠ .fsc k) →
      ((∀ a ∈ as, a ≠ .video .vblank) ∨ (s.cfg.nmiGate = true ∧ s.ctrl1.getLsbD s.cfg.nmiBit = false ∧
        ∀ a ∈ as, ∀ d, a.command = some (.wrctrl1 d) → d.getLsbD s.cfg.nmiBit = false)) →
      ∃ t, Sys2Proof.core.run as.length s = .next t ∧ t.awaitsSync = true ∧ t.inputs = rest
end

