-- ==== Sys2Proof/Laws/Decode.lean ====
section
/-! SUPPORT. The fields of a word: reading one back, and a word as the fields it is made of. -/

namespace Sys2Proof

@[simp] theorem getLsbD_field {n : Nat} (v : BitVec n) (lo i : Nat) :
    (field v lo).getLsbD i = (decide (i < 48) && decide (lo ≤ i) && v.getLsbD (i - lo)) := by
  by_cases h : lo ≤ i <;> by_cases h' : i < 48 <;> simp [field, h, h']

/-- A field reads back as what was put there. -/
theorem extract_field_same {n : Nat} (v : BitVec n) (lo : Nat) (h : lo + n ≤ 48) : (field v lo).extractLsb' lo n = v := by
  ext i hi
  simp only [BitVec.getElem_extractLsb', getLsbD_field]
  rw [decide_eq_true (by omega), decide_eq_true (by omega), Nat.add_sub_cancel_left, BitVec.getLsbD_eq_getElem hi]
  rfl

/-- Below a field its word is 0. -/
theorem extract_field_below {n : Nat} (v : BitVec n) (lo s k : Nat) (h : s + k ≤ lo) :
    (field v lo).extractLsb' s k = 0#k := by
  ext i hi
  simp only [BitVec.getElem_extractLsb', getLsbD_field, BitVec.getElem_zero]
  rw [decide_eq_false (p := lo ≤ s + i) (by omega)]
  simp

/-- Above a field its word is 0. -/
theorem extract_field_above {n : Nat} (v : BitVec n) (lo s k : Nat) (h : lo + n ≤ s) :
    (field v lo).extractLsb' s k = 0#k := by
  ext i hi
  simp only [BitVec.getElem_extractLsb', getLsbD_field, BitVec.getElem_zero]
  rw [BitVec.getLsbD_of_ge v _ (by omega)]
  simp

/-- A field of a word put back at its place is the word's own bits there. -/
theorem getLsbD_field_extract (w : CmdWord) (lo n i : Nat) :
    (field (w.extractLsb' lo n) lo).getLsbD i = (decide (lo ≤ i ∧ i < lo + n) && w.getLsbD i) := by
  simp only [getLsbD_field, BitVec.getLsbD_extractLsb']
  by_cases h1 : lo ≤ i
  · rw [Nat.add_sub_cancel' h1]
    by_cases h2 : i < 48
    · by_cases h3 : i < lo + n
      · simp [h1, h2, h3]; omega
      · simp [h1, h3]; omega
    · rw [BitVec.getLsbD_of_ge w i (by omega)]; simp
  · simp [h1]

/-- The six bytes of a word make the word. -/
theorem word_of_six_fields (w : CmdWord) :
    field (w.extractLsb' 40 8) 40 ||| field (w.extractLsb' 32 8) 32 ||| field (w.extractLsb' 24 8) 24 |||
      field (w.extractLsb' 16 8) 16 ||| field (w.extractLsb' 8 8) 8 ||| field (w.extractLsb' 0 8) 0 = w := by
  refine BitVec.eq_of_getLsbD_eq fun i hi => ?_
  simp only [BitVec.getLsbD_or, getLsbD_field_extract]
  cases w.getLsbD i <;> simp
  omega

/-- The bytes of a word read back as the word, and leave the rest. -/
theorem wordOfBytes_bytesOfWord (w : CmdWord) (rest : List Byte) : wordOfBytes (bytesOfWord w ++ rest) = .ok (w, rest) := by
  simp only [bytesOfWord, List.cons_append, List.nil_append, wordOfBytes, word_of_six_fields]

@[simp] theorem opcode_wordN (op : Byte) : opcodeField (wordN op) = op := extract_field_same op 40 (by omega)

@[simp] theorem opcode_wordB (op d : Byte) : opcodeField (wordB op d) = op := by
  simp [opcodeField, wordB, BitVec.extractLsb'_or, extract_field_same, extract_field_above]

@[simp] theorem opcode_wordP (op hi lo : Byte) : opcodeField (wordP op hi lo) = op := by
  simp [opcodeField, wordP, BitVec.extractLsb'_or, extract_field_same, extract_field_above]

@[simp] theorem opcode_wordQ (op : Byte) (a : Addr) (d : Byte) : opcodeField (wordQ op a d) = op := by
  simp [opcodeField, wordQ, BitVec.extractLsb'_or, extract_field_same, extract_field_above]

@[simp] theorem opcode_wordI (op idx : Byte) : opcodeField (wordI op idx) = op := by
  simp [opcodeField, wordI, BitVec.extractLsb'_or, extract_field_same, extract_field_above]

@[simp] theorem opcode_wordS (op idx x y tile attr : Byte) : opcodeField (wordS op idx x y tile attr) = op := by
  simp [opcodeField, wordS, BitVec.extractLsb'_or, extract_field_same, extract_field_above]

@[simp] theorem formatN_wordN (op : Byte) (i : Instr) : formatN (wordN op) i = .ok i :=
  if_pos (extract_field_below op 40 0 40 (by omega))

@[simp] theorem formatB_wordB (op d : Byte) (k : Byte → Instr) : formatB (wordB op d) k = .ok (k d) := by
  simp [formatB, wordB, BitVec.extractLsb'_or, extract_field_same, extract_field_above, extract_field_below]

@[simp] theorem formatP_wordP (op hi lo : Byte) (k : Byte → Byte → Instr) : formatP (wordP op hi lo) k = .ok (k hi lo) := by
  simp [formatP, wordP, BitVec.extractLsb'_or, extract_field_same, extract_field_above, extract_field_below]

@[simp] theorem formatQ_wordQ (op : Byte) (a : Addr) (d : Byte) (k : Addr → Byte → Instr) :
    formatQ (wordQ op a d) k = .ok (k a d) := by
  simp [formatQ, wordQ, BitVec.extractLsb'_or, extract_field_same, extract_field_above, extract_field_below]

@[simp] theorem formatI_wordI (op idx : Byte) (k : Byte → Instr) : formatI (wordI op idx) k = .ok (k idx) := by
  simp [formatI, wordI, BitVec.extractLsb'_or, extract_field_same, extract_field_above, extract_field_below]

@[simp] theorem formatS_wordS (op idx x y tile attr : Byte) (k : Byte → Byte → Byte → Byte → Byte → Instr) :
    formatS (wordS op idx x y tile attr) k = .ok (k idx x y tile attr) := by
  simp [formatS, wordS, BitVec.extractLsb'_or, extract_field_same, extract_field_above, extract_field_below]

/-- A masked word is a row's pattern iff its opcode is the row's and the masked payload bits are 0. -/
theorem masked_eq_pattern (w : CmdWord) (op : Byte) (lo n : Nat) (h : lo + n ≤ 40) :
    (w &&& (field (BitVec.allOnes 8) 40 ||| field (BitVec.allOnes n) lo) = op.setWidth 48 <<< 40) ↔
      opcodeField w = op ∧ w.extractLsb' lo n = 0#n := by
  have hp : op.setWidth 48 <<< 40 = field op 40 := rfl
  rw [hp]
  constructor
  · intro hw
    have hb (i : Nat) := congrArg (fun v : CmdWord => v.getLsbD i) hw
    simp only [BitVec.getLsbD_and, BitVec.getLsbD_or, getLsbD_field, BitVec.getLsbD_allOnes] at hb
    constructor
    · refine BitVec.eq_of_getLsbD_eq fun i hi => ?_
      have := hb (40 + i)
      simpa [opcodeField, hi, show 40 + i < 48 by omega, show lo ≤ 40 + i by omega] using this
    · refine BitVec.eq_of_getLsbD_eq fun i hi => ?_
      have := hb (lo + i)
      simpa [hi, show lo + i < 48 by omega, show ¬ 40 ≤ lo + i by omega] using this
  · rintro ⟨rfl, hz⟩
    refine BitVec.eq_of_getLsbD_eq fun i hi => ?_
    have hb := congrArg (fun v => BitVec.getLsbD v (i - lo)) hz
    simp only [BitVec.getLsbD_extractLsb', BitVec.getLsbD_zero, Bool.and_eq_false_iff, decide_eq_false_iff_not] at hb
    simp only [opcodeField, BitVec.getLsbD_and, BitVec.getLsbD_or, getLsbD_field_extract]
    simp only [getLsbD_field, BitVec.getLsbD_allOnes]
    by_cases h1 : 40 ≤ i
    · simp [h1, hi, show i < 40 + 8 by omega, show i - 40 < 8 by omega]
    · by_cases h2 : lo ≤ i
      · rw [show lo + (i - lo) = i by omega] at hb
        rcases hb with hb | hb
        · simp [h1, hb]
        · simp [h1, hb]
      · simp [h1, h2]

/-- The masks of R92 as fields of ones. -/
theorem mask_fields :
    Format.n.mask = field (BitVec.allOnes 8) 40 ||| field (BitVec.allOnes 40) 0 ∧
    Format.b.mask = field (BitVec.allOnes 8) 40 ||| field (BitVec.allOnes 32) 8 ∧
    Format.p.mask = field (BitVec.allOnes 8) 40 ||| field (BitVec.allOnes 24) 16 ∧
    Format.q.mask = field (BitVec.allOnes 8) 40 ||| field (BitVec.allOnes 16) 24 ∧
    Format.i.mask = field (BitVec.allOnes 8) 40 ||| field (BitVec.allOnes 32) 0 ∧
    Format.s.mask = field (BitVec.allOnes 8) 40 ||| field (BitVec.allOnes 0) 0 := by
  decide

end Sys2Proof
end

