-- ==== Sys2Proof/Laws/Memory.lean ====
section
/-! SUPPORT. The memory laws: read after write, and that every memory operation keeps the canonical form. -/

namespace Sys2Proof.Machine

@[simp] theorem Memory.read_nil (k : Nat) : Memory.read [] k = none := rfl

theorem Memory.wf_nil (size : Nat) : Memory.wf size [] := ⟨List.Pairwise.nil, by simp⟩

/-- Read after write: the written cell gives the written byte, every other cell what it gave before. -/
theorem Memory.read_write (m : Memory) (k j : Nat) (b : Byte) :
    (Memory.write m k b).read j = if j = k then some b else m.read j := by
  induction m with
  | nil => simp only [Memory.write, Memory.read, eq_comm]
  | cons c m ih =>
    obtain ⟨a, d⟩ := c
    simp only [Memory.write]
    split
    · simp only [Memory.read, eq_comm]
    · split
      · subst_vars; simp only [Memory.read]; split_ifs <;> first | rfl | omega
      · simp only [Memory.read, ih]; split_ifs <;> first | rfl | omega

/-- The cells of a write are the old ones and the written one. -/
theorem Memory.mem_write {m : Memory} {k : Nat} {b : Byte} {c : Host.Cell} (h : c ∈ Memory.write m k b) :
    c = (k, b) ∨ c ∈ m := by
  induction m with
  | nil => simpa [Memory.write] using h
  | cons d m ih =>
    simp only [Memory.write] at h
    split at h
    · simpa using h
    · split at h
      · rcases List.mem_cons.1 h with h | h
        · exact .inl h
        · exact .inr (List.mem_cons_of_mem _ h)
      · rcases List.mem_cons.1 h with h | h
        · exact .inr (h ▸ List.mem_cons_self)
        · exact (ih h).imp_right (List.mem_cons_of_mem _)

/-- A write inside the size keeps the canonical form. -/
theorem Memory.wf_write {m : Memory} {size k : Nat} (b : Byte) (h : m.wf size) (hk : k < size) :
    (Memory.write m k b).wf size := by
  refine ⟨?_, fun c hc => ?_⟩
  · have hp := h.1
    clear h hk
    induction m with
    | nil => simp [Memory.write]
    | cons d m ih =>
      obtain ⟨a, e⟩ := d
      rw [List.pairwise_cons] at hp
      simp only [Memory.write]
      split
      · rename_i hlt
        refine List.pairwise_cons.2 ⟨fun c hc => ?_, List.pairwise_cons.2 hp⟩
        rcases List.mem_cons.1 hc with rfl | hc
        · exact hlt
        · exact lt_trans hlt (hp.1 c hc)
      · split
        · subst_vars; exact List.pairwise_cons.2 hp
        · refine List.pairwise_cons.2 ⟨fun c hc => ?_, ih hp.2⟩
          rcases Memory.mem_write hc with rfl | hc
          · show a < k; omega
          · exact hp.1 c hc
  · rcases Memory.mem_write hc with rfl | hc
    · exact hk
    · exact h.2 c hc

/-- Two cells of the sprite table are the same cell only for the same field of the same slot. -/
theorem slotCell_inj {i j : Nat} {f g : SlotField} : slotCell i f = slotCell j g ↔ i = j ∧ f = g := by
  cases f <;> cases g <;> simp [slotCell] <;> omega

theorem Memory.read_writeField (m : Memory) (i j : Nat) (f g : SlotField) (b : Byte) :
    (m.writeField i f b).read (slotCell j g) = if j = i ∧ g = f then some b else m.read (slotCell j g) := by
  simp only [Memory.writeField, Memory.read_write, slotCell_inj]

theorem Memory.wf_writeField {m : Memory} {n i : Nat} (f : SlotField) (b : Byte) (h : m.wf (4 * n)) (hi : i < n) :
    (m.writeField i f b).wf (4 * n) :=
  Memory.wf_write b h (by cases f <;> simp [slotCell] <;> omega)

theorem Memory.wf_hideSlots {m : Memory} {n k : Nat} (b : Byte) (h : m.wf (4 * n)) (hk : k < n) :
    (m.hideSlots b k).wf (4 * n) := by
  induction k with
  | zero => exact h
  | succ k ih => exact Memory.wf_writeField .y b (ih (by omega)) hk

/-- Slots 1 to `n` lose their `y`, and nothing else changes. -/
theorem Memory.read_hideSlots (m : Memory) (b : Byte) (n j : Nat) (g : SlotField) :
    (m.hideSlots b n).read (slotCell j g) = if 1 ≤ j ∧ j ≤ n ∧ g = .y then some b else m.read (slotCell j g) := by
  induction n with
  | zero => rw [if_neg (by omega)]; rfl
  | succ n ih =>
    rw [Memory.hideSlots, Memory.read_writeField, ih]
    by_cases hg : g = .y
    · by_cases h1 : j = n + 1
      · simp [hg, h1]
      · by_cases h2 : 1 ≤ j ∧ j ≤ n
        · rw [if_neg (by simp [h1]), if_pos ⟨h2.1, h2.2, hg⟩, if_pos ⟨h2.1, by omega, hg⟩]
        · rw [if_neg (by simp [h1]), if_neg (by simp [hg]; omega), if_neg (by simp [hg]; omega)]
    · simp [hg]

end Sys2Proof.Machine
end

