-- ==== Sys2Proof/Laws/State.lean ====
section
/-! SUPPORT. One lemma per field per named update of the state, so that no later proof unfolds a record update. -/

namespace Sys2Proof.Machine

@[simp] theorem answer_eq (s : State) (d : RespData) : s.answer d = s.respond 0#4 d := rfl
@[simp] theorem done_eq (s : State) : s.done = s.respond 0#4 0#32 := rfl
@[simp] theorem illegal_eq (s : State) : s.illegal = s.respond 15#4 0#32 := rfl
@[simp] theorem raiseAnswer_eq (s : State) (v : Violation) : s.raiseAnswer v = (s.raise v).respond (violationNumber v) 0#32 := rfl

@[simp] theorem respond_cfg (s : State) (c : RespCode) (d : RespData) : (s.respond c d).cfg = s.cfg := rfl
@[simp] theorem respond_ctrl1 (s : State) (c : RespCode) (d : RespData) : (s.respond c d).ctrl1 = s.ctrl1 := rfl
@[simp] theorem respond_ctrl2 (s : State) (c : RespCode) (d : RespData) : (s.respond c d).ctrl2 = s.ctrl2 := rfl
@[simp] theorem respond_status (s : State) (c : RespCode) (d : RespData) : (s.respond c d).status = s.status := rfl
@[simp] theorem respond_oamAddr (s : State) (c : RespCode) (d : RespData) : (s.respond c d).oamAddr = s.oamAddr := rfl
@[simp] theorem respond_oamData (s : State) (c : RespCode) (d : RespData) : (s.respond c d).oamData = s.oamData := rfl
@[simp] theorem respond_scrollX (s : State) (c : RespCode) (d : RespData) : (s.respond c d).scrollX = s.scrollX := rfl
@[simp] theorem respond_scrollY (s : State) (c : RespCode) (d : RespData) : (s.respond c d).scrollY = s.scrollY := rfl
@[simp] theorem respond_vaddr (s : State) (c : RespCode) (d : RespData) : (s.respond c d).vaddr = s.vaddr := rfl
@[simp] theorem respond_w (s : State) (c : RespCode) (d : RespData) : (s.respond c d).w = s.w := rfl
@[simp] theorem respond_queue (s : State) (c : RespCode) (d : RespData) : (s.respond c d).queue = s.queue := rfl
@[simp] theorem respond_sprMem (s : State) (c : RespCode) (d : RespData) : (s.respond c d).sprMem = s.sprMem := rfl
@[simp] theorem respond_nextCtrl1 (s : State) (c : RespCode) (d : RespData) : (s.respond c d).nextCtrl1 = s.nextCtrl1 := rfl
@[simp] theorem respond_nextCtrl2 (s : State) (c : RespCode) (d : RespData) : (s.respond c d).nextCtrl2 = s.nextCtrl2 := rfl
@[simp] theorem respond_nextScrollX (s : State) (c : RespCode) (d : RespData) : (s.respond c d).nextScrollX = s.nextScrollX := rfl
@[simp] theorem respond_nextScrollY (s : State) (c : RespCode) (d : RespData) : (s.respond c d).nextScrollY = s.nextScrollY := rfl
@[simp] theorem respond_ntMem (s : State) (c : RespCode) (d : RespData) : (s.respond c d).ntMem = s.ntMem := rfl
@[simp] theorem respond_atMem (s : State) (c : RespCode) (d : RespData) : (s.respond c d).atMem = s.atMem := rfl
@[simp] theorem respond_scrdis (s : State) (c : RespCode) (d : RespData) : (s.respond c d).scrdis = s.scrdis := rfl
@[simp] theorem respond_pend (s : State) (c : RespCode) (d : RespData) : (s.respond c d).pend = s.pend := rfl
@[simp] theorem respond_fsc (s : State) (c : RespCode) (d : RespData) : (s.respond c d).fsc = s.fsc := rfl
@[simp] theorem respond_shutReq (s : State) (c : RespCode) (d : RespData) : (s.respond c d).shutReq = s.shutReq := rfl
@[simp] theorem respond_err (s : State) (c : RespCode) (d : RespData) : (s.respond c d).err = s.err := rfl
@[simp] theorem respond_lastErr (s : State) (c : RespCode) (d : RespData) : (s.respond c d).lastErr = s.lastErr := rfl
@[simp] theorem respond_inputs (s : State) (c : RespCode) (d : RespData) : (s.respond c d).inputs = s.inputs := rfl
@[simp] theorem respond_resps (s : State) (c : RespCode) (d : RespData) : (s.respond c d).resps = ⟨c, d⟩ :: s.resps := rfl
@[simp] theorem respond_epoch (s : State) (c : RespCode) (d : RespData) : (s.respond c d).epoch = s.epoch := rfl

@[simp] theorem raise_cfg (s : State) (v : Violation) : (s.raise v).cfg = s.cfg := rfl
@[simp] theorem raise_ctrl1 (s : State) (v : Violation) : (s.raise v).ctrl1 = s.ctrl1 := rfl
@[simp] theorem raise_ctrl2 (s : State) (v : Violation) : (s.raise v).ctrl2 = s.ctrl2 := rfl
@[simp] theorem raise_status (s : State) (v : Violation) : (s.raise v).status = s.status := rfl
@[simp] theorem raise_oamAddr (s : State) (v : Violation) : (s.raise v).oamAddr = s.oamAddr := rfl
@[simp] theorem raise_oamData (s : State) (v : Violation) : (s.raise v).oamData = s.oamData := rfl
@[simp] theorem raise_scrollX (s : State) (v : Violation) : (s.raise v).scrollX = s.scrollX := rfl
@[simp] theorem raise_scrollY (s : State) (v : Violation) : (s.raise v).scrollY = s.scrollY := rfl
@[simp] theorem raise_vaddr (s : State) (v : Violation) : (s.raise v).vaddr = s.vaddr := rfl
@[simp] theorem raise_w (s : State) (v : Violation) : (s.raise v).w = s.w := rfl
@[simp] theorem raise_queue (s : State) (v : Violation) : (s.raise v).queue = s.queue := rfl
@[simp] theorem raise_sprMem (s : State) (v : Violation) : (s.raise v).sprMem = s.sprMem := rfl
@[simp] theorem raise_nextCtrl1 (s : State) (v : Violation) : (s.raise v).nextCtrl1 = s.nextCtrl1 := rfl
@[simp] theorem raise_nextCtrl2 (s : State) (v : Violation) : (s.raise v).nextCtrl2 = s.nextCtrl2 := rfl
@[simp] theorem raise_nextScrollX (s : State) (v : Violation) : (s.raise v).nextScrollX = s.nextScrollX := rfl
@[simp] theorem raise_nextScrollY (s : State) (v : Violation) : (s.raise v).nextScrollY = s.nextScrollY := rfl
@[simp] theorem raise_ntMem (s : State) (v : Violation) : (s.raise v).ntMem = s.ntMem := rfl
@[simp] theorem raise_atMem (s : State) (v : Violation) : (s.raise v).atMem = s.atMem := rfl
@[simp] theorem raise_scrdis (s : State) (v : Violation) : (s.raise v).scrdis = s.scrdis := rfl
@[simp] theorem raise_pend (s : State) (v : Violation) : (s.raise v).pend = s.pend := rfl
@[simp] theorem raise_fsc (s : State) (v : Violation) : (s.raise v).fsc = abandonTick s.fsc := rfl
@[simp] theorem raise_shutReq (s : State) (v : Violation) : (s.raise v).shutReq = s.shutReq := rfl
@[simp] theorem raise_err (s : State) (v : Violation) : (s.raise v).err = s.err ||| violationBit v := rfl
@[simp] theorem raise_lastErr (s : State) (v : Violation) : (s.raise v).lastErr = violationNumber v := rfl
@[simp] theorem raise_inputs (s : State) (v : Violation) : (s.raise v).inputs = s.inputs := rfl
@[simp] theorem raise_resps (s : State) (v : Violation) : (s.raise v).resps = s.resps := rfl
@[simp] theorem raise_epoch (s : State) (v : Violation) : (s.raise v).epoch = s.epoch := rfl

@[simp] theorem stop_cfg (s : State) : (s.stop).cfg = s.cfg := rfl
@[simp] theorem stop_ctrl1 (s : State) : (s.stop).ctrl1 = s.ctrl1 := rfl
@[simp] theorem stop_ctrl2 (s : State) : (s.stop).ctrl2 = s.ctrl2 := rfl
@[simp] theorem stop_status (s : State) : (s.stop).status = s.status := rfl
@[simp] theorem stop_oamAddr (s : State) : (s.stop).oamAddr = s.oamAddr := rfl
@[simp] theorem stop_oamData (s : State) : (s.stop).oamData = s.oamData := rfl
@[simp] theorem stop_scrollX (s : State) : (s.stop).scrollX = s.scrollX := rfl
@[simp] theorem stop_scrollY (s : State) : (s.stop).scrollY = s.scrollY := rfl
@[simp] theorem stop_vaddr (s : State) : (s.stop).vaddr = s.vaddr := rfl
@[simp] theorem stop_w (s : State) : (s.stop).w = s.w := rfl
@[simp] theorem stop_queue (s : State) : (s.stop).queue = s.queue := rfl
@[simp] theorem stop_sprMem (s : State) : (s.stop).sprMem = s.sprMem := rfl
@[simp] theorem stop_nextCtrl1 (s : State) : (s.stop).nextCtrl1 = s.nextCtrl1 := rfl
@[simp] theorem stop_nextCtrl2 (s : State) : (s.stop).nextCtrl2 = s.nextCtrl2 := rfl
@[simp] theorem stop_nextScrollX (s : State) : (s.stop).nextScrollX = s.nextScrollX := rfl
@[simp] theorem stop_nextScrollY (s : State) : (s.stop).nextScrollY = s.nextScrollY := rfl
@[simp] theorem stop_ntMem (s : State) : (s.stop).ntMem = s.ntMem := rfl
@[simp] theorem stop_atMem (s : State) : (s.stop).atMem = s.atMem := rfl
@[simp] theorem stop_scrdis (s : State) : (s.stop).scrdis = s.scrdis := rfl
@[simp] theorem stop_pend (s : State) : (s.stop).pend = s.pend := rfl
@[simp] theorem stop_fsc (s : State) : (s.stop).fsc = .stopped := rfl
@[simp] theorem stop_shutReq (s : State) : (s.stop).shutReq = s.shutReq := rfl
@[simp] theorem stop_err (s : State) : (s.stop).err = s.err := rfl
@[simp] theorem stop_lastErr (s : State) : (s.stop).lastErr = s.lastErr := rfl
@[simp] theorem stop_inputs (s : State) : (s.stop).inputs = s.inputs := rfl
@[simp] theorem stop_resps (s : State) : (s.stop).resps = s.resps := rfl
@[simp] theorem stop_epoch (s : State) : (s.stop).epoch = s.epoch := rfl

@[simp] theorem setSlot_cfg (s : State) (i : Nat) (x y t a : Byte) : (s.setSlot i x y t a).cfg = s.cfg := rfl
@[simp] theorem setSlot_ctrl1 (s : State) (i : Nat) (x y t a : Byte) : (s.setSlot i x y t a).ctrl1 = s.ctrl1 := rfl
@[simp] theorem setSlot_ctrl2 (s : State) (i : Nat) (x y t a : Byte) : (s.setSlot i x y t a).ctrl2 = s.ctrl2 := rfl
@[simp] theorem setSlot_status (s : State) (i : Nat) (x y t a : Byte) : (s.setSlot i x y t a).status = s.status := rfl
@[simp] theorem setSlot_oamAddr (s : State) (i : Nat) (x y t a : Byte) : (s.setSlot i x y t a).oamAddr = s.oamAddr := rfl
@[simp] theorem setSlot_oamData (s : State) (i : Nat) (x y t a : Byte) : (s.setSlot i x y t a).oamData = s.oamData := rfl
@[simp] theorem setSlot_scrollX (s : State) (i : Nat) (x y t a : Byte) : (s.setSlot i x y t a).scrollX = s.scrollX := rfl
@[simp] theorem setSlot_scrollY (s : State) (i : Nat) (x y t a : Byte) : (s.setSlot i x y t a).scrollY = s.scrollY := rfl
@[simp] theorem setSlot_vaddr (s : State) (i : Nat) (x y t a : Byte) : (s.setSlot i x y t a).vaddr = s.vaddr := rfl
@[simp] theorem setSlot_w (s : State) (i : Nat) (x y t a : Byte) : (s.setSlot i x y t a).w = s.w := rfl
@[simp] theorem setSlot_queue (s : State) (i : Nat) (x y t a : Byte) : (s.setSlot i x y t a).queue = s.queue := rfl
@[simp] theorem setSlot_nextCtrl1 (s : State) (i : Nat) (x y t a : Byte) : (s.setSlot i x y t a).nextCtrl1 = s.nextCtrl1 := rfl
@[simp] theorem setSlot_nextCtrl2 (s : State) (i : Nat) (x y t a : Byte) : (s.setSlot i x y t a).nextCtrl2 = s.nextCtrl2 := rfl
@[simp] theorem setSlot_nextScrollX (s : State) (i : Nat) (x y t a : Byte) : (s.setSlot i x y t a).nextScrollX = s.nextScrollX := rfl
@[simp] theorem setSlot_nextScrollY (s : State) (i : Nat) (x y t a : Byte) : (s.setSlot i x y t a).nextScrollY = s.nextScrollY := rfl
@[simp] theorem setSlot_ntMem (s : State) (i : Nat) (x y t a : Byte) : (s.setSlot i x y t a).ntMem = s.ntMem := rfl
@[simp] theorem setSlot_atMem (s : State) (i : Nat) (x y t a : Byte) : (s.setSlot i x y t a).atMem = s.atMem := rfl
@[simp] theorem setSlot_scrdis (s : State) (i : Nat) (x y t a : Byte) : (s.setSlot i x y t a).scrdis = s.scrdis := rfl
@[simp] theorem setSlot_pend (s : State) (i : Nat) (x y t a : Byte) : (s.setSlot i x y t a).pend = s.pend := rfl
@[simp] theorem setSlot_fsc (s : State) (i : Nat) (x y t a : Byte) : (s.setSlot i x y t a).fsc = s.fsc := rfl
@[simp] theorem setSlot_shutReq (s : State) (i : Nat) (x y t a : Byte) : (s.setSlot i x y t a).shutReq = s.shutReq := rfl
@[simp] theorem setSlot_err (s : State) (i : Nat) (x y t a : Byte) : (s.setSlot i x y t a).err = s.err := rfl
@[simp] theorem setSlot_lastErr (s : State) (i : Nat) (x y t a : Byte) : (s.setSlot i x y t a).lastErr = s.lastErr := rfl
@[simp] theorem setSlot_inputs (s : State) (i : Nat) (x y t a : Byte) : (s.setSlot i x y t a).inputs = s.inputs := rfl
@[simp] theorem setSlot_resps (s : State) (i : Nat) (x y t a : Byte) : (s.setSlot i x y t a).resps = s.resps := rfl
@[simp] theorem setSlot_epoch (s : State) (i : Nat) (x y t a : Byte) : (s.setSlot i x y t a).epoch = s.epoch := rfl

@[simp] theorem hideSprites_cfg (s : State) : (s.hideSprites).cfg = s.cfg := rfl
@[simp] theorem hideSprites_ctrl1 (s : State) : (s.hideSprites).ctrl1 = s.ctrl1 := rfl
@[simp] theorem hideSprites_ctrl2 (s : State) : (s.hideSprites).ctrl2 = s.ctrl2 := rfl
@[simp] theorem hideSprites_status (s : State) : (s.hideSprites).status = s.status := rfl
@[simp] theorem hideSprites_oamAddr (s : State) : (s.hideSprites).oamAddr = s.oamAddr := rfl
@[simp] theorem hideSprites_oamData (s : State) : (s.hideSprites).oamData = s.oamData := rfl
@[simp] theorem hideSprites_scrollX (s : State) : (s.hideSprites).scrollX = s.scrollX := rfl
@[simp] theorem hideSprites_scrollY (s : State) : (s.hideSprites).scrollY = s.scrollY := rfl
@[simp] theorem hideSprites_vaddr (s : State) : (s.hideSprites).vaddr = s.vaddr := rfl
@[simp] theorem hideSprites_w (s : State) : (s.hideSprites).w = s.w := rfl
@[simp] theorem hideSprites_queue (s : State) : (s.hideSprites).queue = s.queue := rfl
@[simp] theorem hideSprites_sprMem (s : State) : (s.hideSprites).sprMem = s.sprMem.hideSlots s.cfg.offscreenY (s.cfg.nsprites - 1) := rfl
@[simp] theorem hideSprites_nextCtrl1 (s : State) : (s.hideSprites).nextCtrl1 = s.nextCtrl1 := rfl
@[simp] theorem hideSprites_nextCtrl2 (s : State) : (s.hideSprites).nextCtrl2 = s.nextCtrl2 := rfl
@[simp] theorem hideSprites_nextScrollX (s : State) : (s.hideSprites).nextScrollX = s.nextScrollX := rfl
@[simp] theorem hideSprites_nextScrollY (s : State) : (s.hideSprites).nextScrollY = s.nextScrollY := rfl
@[simp] theorem hideSprites_ntMem (s : State) : (s.hideSprites).ntMem = s.ntMem := rfl
@[simp] theorem hideSprites_atMem (s : State) : (s.hideSprites).atMem = s.atMem := rfl
@[simp] theorem hideSprites_scrdis (s : State) : (s.hideSprites).scrdis = s.scrdis := rfl
@[simp] theorem hideSprites_pend (s : State) : (s.hideSprites).pend = s.pend := rfl
@[simp] theorem hideSprites_fsc (s : State) : (s.hideSprites).fsc = s.fsc := rfl
@[simp] theorem hideSprites_shutReq (s : State) : (s.hideSprites).shutReq = s.shutReq := rfl
@[simp] theorem hideSprites_err (s : State) : (s.hideSprites).err = s.err := rfl
@[simp] theorem hideSprites_lastErr (s : State) : (s.hideSprites).lastErr = s.lastErr := rfl
@[simp] theorem hideSprites_inputs (s : State) : (s.hideSprites).inputs = s.inputs := rfl
@[simp] theorem hideSprites_resps (s : State) : (s.hideSprites).resps = s.resps := rfl
@[simp] theorem hideSprites_epoch (s : State) : (s.hideSprites).epoch = s.epoch := rfl

@[simp] theorem resetBlock_cfg (s : State) : (s.resetBlock).cfg = s.cfg := rfl
@[simp] theorem resetBlock_ctrl1 (s : State) : (s.resetBlock).ctrl1 = 0#8 := rfl
@[simp] theorem resetBlock_ctrl2 (s : State) : (s.resetBlock).ctrl2 = 0#8 := rfl
@[simp] theorem resetBlock_status (s : State) : (s.resetBlock).status = 0#8 := rfl
@[simp] theorem resetBlock_oamAddr (s : State) : (s.resetBlock).oamAddr = 0#8 := rfl
@[simp] theorem resetBlock_oamData (s : State) : (s.resetBlock).oamData = 0#8 := rfl
@[simp] theorem resetBlock_scrollX (s : State) : (s.resetBlock).scrollX = 0#8 := rfl
@[simp] theorem resetBlock_scrollY (s : State) : (s.resetBlock).scrollY = 0#8 := rfl
@[simp] theorem resetBlock_vaddr (s : State) : (s.resetBlock).vaddr = 0#16 := rfl
@[simp] theorem resetBlock_w (s : State) : (s.resetBlock).w = false := rfl
@[simp] theorem resetBlock_queue (s : State) : (s.resetBlock).queue = [] := rfl
@[simp] theorem resetBlock_sprMem (s : State) : (s.resetBlock).sprMem = [] := rfl
@[simp] theorem resetBlock_nextCtrl1 (s : State) : (s.resetBlock).nextCtrl1 = 0#8 := rfl
@[simp] theorem resetBlock_nextCtrl2 (s : State) : (s.resetBlock).nextCtrl2 = 0#8 := rfl
@[simp] theorem resetBlock_nextScrollX (s : State) : (s.resetBlock).nextScrollX = 0#8 := rfl
@[simp] theorem resetBlock_nextScrollY (s : State) : (s.resetBlock).nextScrollY = 0#8 := rfl
@[simp] theorem resetBlock_ntMem (s : State) : (s.resetBlock).ntMem = [] := rfl
@[simp] theorem resetBlock_atMem (s : State) : (s.resetBlock).atMem = [] := rfl
@[simp] theorem resetBlock_scrdis (s : State) : (s.resetBlock).scrdis = false := rfl
@[simp] theorem resetBlock_pend (s : State) : (s.resetBlock).pend = false := rfl
@[simp] theorem resetBlock_fsc (s : State) : (s.resetBlock).fsc = .waitingForSync := rfl
@[simp] theorem resetBlock_shutReq (s : State) : (s.resetBlock).shutReq = false := rfl
@[simp] theorem resetBlock_err (s : State) : (s.resetBlock).err = 0#8 := rfl
@[simp] theorem resetBlock_lastErr (s : State) : (s.resetBlock).lastErr = 0#4 := rfl
@[simp] theorem resetBlock_inputs (s : State) : (s.resetBlock).inputs = s.inputs := rfl
@[simp] theorem resetBlock_resps (s : State) : (s.resetBlock).resps = s.resps := rfl
@[simp] theorem resetBlock_epoch (s : State) : (s.resetBlock).epoch = s.epoch + 1 := rfl

end Sys2Proof.Machine
end

