-- ==== Sys2Proof/Laws/Ops.lean ====
section
/-! SUPPORT. What each shared operation can change, field by field, and what a read sees after it. -/

namespace Sys2Proof.Machine

theorem vWrite_cases (s : State) (a : Addr) (b : Byte) :
    (s.inNt a = true ∧ s.vWrite a b = { s with ntMem := s.ntMem.write (a.toNat - s.cfg.ntBase.toNat) b }) ∨
    (s.inNt a = false ∧ s.inAt a = true ∧ s.vWrite a b = { s with atMem := s.atMem.write (a.toNat - s.cfg.atBase.toNat) b }) ∨
    (s.inNt a = false ∧ s.inAt a = false ∧ s.vWrite a b = s) := by
  unfold State.vWrite
  cases h1 : s.inNt a <;> cases h2 : s.inAt a <;> simp

@[simp] theorem vWrite_cfg (s : State) (a : Addr) (b : Byte) : (s.vWrite a b).cfg = s.cfg := by
  obtain ⟨_, h⟩ | ⟨_, _, h⟩ | ⟨_, _, h⟩ := vWrite_cases s a b <;> rw [h]
@[simp] theorem vWrite_ctrl1 (s : State) (a : Addr) (b : Byte) : (s.vWrite a b).ctrl1 = s.ctrl1 := by
  obtain ⟨_, h⟩ | ⟨_, _, h⟩ | ⟨_, _, h⟩ := vWrite_cases s a b <;> rw [h]
@[simp] theorem vWrite_ctrl2 (s : State) (a : Addr) (b : Byte) : (s.vWrite a b).ctrl2 = s.ctrl2 := by
  obtain ⟨_, h⟩ | ⟨_, _, h⟩ | ⟨_, _, h⟩ := vWrite_cases s a b <;> rw [h]
@[simp] theorem vWrite_status (s : State) (a : Addr) (b : Byte) : (s.vWrite a b).status = s.status := by
  obtain ⟨_, h⟩ | ⟨_, _, h⟩ | ⟨_, _, h⟩ := vWrite_cases s a b <;> rw [h]
@[simp] theorem vWrite_oamAddr (s : State) (a : Addr) (b : Byte) : (s.vWrite a b).oamAddr = s.oamAddr := by
  obtain ⟨_, h⟩ | ⟨_, _, h⟩ | ⟨_, _, h⟩ := vWrite_cases s a b <;> rw [h]
@[simp] theorem vWrite_oamData (s : State) (a : Addr) (b : Byte) : (s.vWrite a b).oamData = s.oamData := by
  obtain ⟨_, h⟩ | ⟨_, _, h⟩ | ⟨_, _, h⟩ := vWrite_cases s a b <;> rw [h]
@[simp] theorem vWrite_scrollX (s : State) (a : Addr) (b : Byte) : (s.vWrite a b).scrollX = s.scrollX := by
  obtain ⟨_, h⟩ | ⟨_, _, h⟩ | ⟨_, _, h⟩ := vWrite_cases s a b <;> rw [h]
@[simp] theorem vWrite_scrollY (s : State) (a : Addr) (b : Byte) : (s.vWrite a b).scrollY = s.scrollY := by
  obtain ⟨_, h⟩ | ⟨_, _, h⟩ | ⟨_, _, h⟩ := vWrite_cases s a b <;> rw [h]
@[simp] theorem vWrite_vaddr (s : State) (a : Addr) (b : Byte) : (s.vWrite a b).vaddr = s.vaddr := by
  obtain ⟨_, h⟩ | ⟨_, _, h⟩ | ⟨_, _, h⟩ := vWrite_cases s a b <;> rw [h]
@[simp] theorem vWrite_w (s : State) (a : Addr) (b : Byte) : (s.vWrite a b).w = s.w := by
  obtain ⟨_, h⟩ | ⟨_, _, h⟩ | ⟨_, _, h⟩ := vWrite_cases s a b <;> rw [h]
@[simp] theorem vWrite_queue (s : State) (a : Addr) (b : Byte) : (s.vWrite a b).queue = s.queue := by
  obtain ⟨_, h⟩ | ⟨_, _, h⟩ | ⟨_, _, h⟩ := vWrite_cases s a b <;> rw [h]
@[simp] theorem vWrite_sprMem (s : State) (a : Addr) (b : Byte) : (s.vWrite a b).sprMem = s.sprMem := by
  obtain ⟨_, h⟩ | ⟨_, _, h⟩ | ⟨_, _, h⟩ := vWrite_cases s a b <;> rw [h]
@[simp] theorem vWrite_nextCtrl1 (s : State) (a : Addr) (b : Byte) : (s.vWrite a b).nextCtrl1 = s.nextCtrl1 := by
  obtain ⟨_, h⟩ | ⟨_, _, h⟩ | ⟨_, _, h⟩ := vWrite_cases s a b <;> rw [h]
@[simp] theorem vWrite_nextCtrl2 (s : State) (a : Addr) (b : Byte) : (s.vWrite a b).nextCtrl2 = s.nextCtrl2 := by
  obtain ⟨_, h⟩ | ⟨_, _, h⟩ | ⟨_, _, h⟩ := vWrite_cases s a b <;> rw [h]
@[simp] theorem vWrite_nextScrollX (s : State) (a : Addr) (b : Byte) : (s.vWrite a b).nextScrollX = s.nextScrollX := by
  obtain ⟨_, h⟩ | ⟨_, _, h⟩ | ⟨_, _, h⟩ := vWrite_cases s a b <;> rw [h]
@[simp] theorem vWrite_nextScrollY (s : State) (a : Addr) (b : Byte) : (s.vWrite a b).nextScrollY = s.nextScrollY := by
  obtain ⟨_, h⟩ | ⟨_, _, h⟩ | ⟨_, _, h⟩ := vWrite_cases s a b <;> rw [h]
@[simp] theorem vWrite_scrdis (s : State) (a : Addr) (b : Byte) : (s.vWrite a b).scrdis = s.scrdis := by
  obtain ⟨_, h⟩ | ⟨_, _, h⟩ | ⟨_, _, h⟩ := vWrite_cases s a b <;> rw [h]
@[simp] theorem vWrite_pend (s : State) (a : Addr) (b : Byte) : (s.vWrite a b).pend = s.pend := by
  obtain ⟨_, h⟩ | ⟨_, _, h⟩ | ⟨_, _, h⟩ := vWrite_cases s a b <;> rw [h]
@[simp] theorem vWrite_fsc (s : State) (a : Addr) (b : Byte) : (s.vWrite a b).fsc = s.fsc := by
  obtain ⟨_, h⟩ | ⟨_, _, h⟩ | ⟨_, _, h⟩ := vWrite_cases s a b <;> rw [h]
@[simp] theorem vWrite_shutReq (s : State) (a : Addr) (b : Byte) : (s.vWrite a b).shutReq = s.shutReq := by
  obtain ⟨_, h⟩ | ⟨_, _, h⟩ | ⟨_, _, h⟩ := vWrite_cases s a b <;> rw [h]
@[simp] theorem vWrite_err (s : State) (a : Addr) (b : Byte) : (s.vWrite a b).err = s.err := by
  obtain ⟨_, h⟩ | ⟨_, _, h⟩ | ⟨_, _, h⟩ := vWrite_cases s a b <;> rw [h]
@[simp] theorem vWrite_lastErr (s : State) (a : Addr) (b : Byte) : (s.vWrite a b).lastErr = s.lastErr := by
  obtain ⟨_, h⟩ | ⟨_, _, h⟩ | ⟨_, _, h⟩ := vWrite_cases s a b <;> rw [h]
@[simp] theorem vWrite_inputs (s : State) (a : Addr) (b : Byte) : (s.vWrite a b).inputs = s.inputs := by
  obtain ⟨_, h⟩ | ⟨_, _, h⟩ | ⟨_, _, h⟩ := vWrite_cases s a b <;> rw [h]
@[simp] theorem vWrite_resps (s : State) (a : Addr) (b : Byte) : (s.vWrite a b).resps = s.resps := by
  obtain ⟨_, h⟩ | ⟨_, _, h⟩ | ⟨_, _, h⟩ := vWrite_cases s a b <;> rw [h]
@[simp] theorem vWrite_epoch (s : State) (a : Addr) (b : Byte) : (s.vWrite a b).epoch = s.epoch := by
  obtain ⟨_, h⟩ | ⟨_, _, h⟩ | ⟨_, _, h⟩ := vWrite_cases s a b <;> rw [h]

@[simp] theorem dataPortWrite_cfg (s : State) (b : Byte) : (s.dataPortWrite b).cfg = s.cfg := by simp [State.dataPortWrite]
@[simp] theorem dataPortWrite_ctrl1 (s : State) (b : Byte) : (s.dataPortWrite b).ctrl1 = s.ctrl1 := by simp [State.dataPortWrite]
@[simp] theorem dataPortWrite_ctrl2 (s : State) (b : Byte) : (s.dataPortWrite b).ctrl2 = s.ctrl2 := by simp [State.dataPortWrite]
@[simp] theorem dataPortWrite_status (s : State) (b : Byte) : (s.dataPortWrite b).status = s.status := by simp [State.dataPortWrite]
@[simp] theorem dataPortWrite_oamAddr (s : State) (b : Byte) : (s.dataPortWrite b).oamAddr = s.oamAddr := by simp [State.dataPortWrite]
@[simp] theorem dataPortWrite_oamData (s : State) (b : Byte) : (s.dataPortWrite b).oamData = s.oamData := by simp [State.dataPortWrite]
@[simp] theorem dataPortWrite_scrollX (s : State) (b : Byte) : (s.dataPortWrite b).scrollX = s.scrollX := by simp [State.dataPortWrite]
@[simp] theorem dataPortWrite_scrollY (s : State) (b : Byte) : (s.dataPortWrite b).scrollY = s.scrollY := by simp [State.dataPortWrite]
@[simp] theorem dataPortWrite_vaddr (s : State) (b : Byte) : (s.dataPortWrite b).vaddr = s.bump s.vaddr := by simp [State.dataPortWrite]
@[simp] theorem dataPortWrite_w (s : State) (b : Byte) : (s.dataPortWrite b).w = s.w := by simp [State.dataPortWrite]
@[simp] theorem dataPortWrite_queue (s : State) (b : Byte) : (s.dataPortWrite b).queue = s.queue := by simp [State.dataPortWrite]
@[simp] theorem dataPortWrite_sprMem (s : State) (b : Byte) : (s.dataPortWrite b).sprMem = s.sprMem := by simp [State.dataPortWrite]
@[simp] theorem dataPortWrite_nextCtrl1 (s : State) (b : Byte) : (s.dataPortWrite b).nextCtrl1 = s.nextCtrl1 := by simp [State.dataPortWrite]
@[simp] theorem dataPortWrite_nextCtrl2 (s : State) (b : Byte) : (s.dataPortWrite b).nextCtrl2 = s.nextCtrl2 := by simp [State.dataPortWrite]
@[simp] theorem dataPortWrite_nextScrollX (s : State) (b : Byte) : (s.dataPortWrite b).nextScrollX = s.nextScrollX := by simp [State.dataPortWrite]
@[simp] theorem dataPortWrite_nextScrollY (s : State) (b : Byte) : (s.dataPortWrite b).nextScrollY = s.nextScrollY := by simp [State.dataPortWrite]
@[simp] theorem dataPortWrite_ntMem (s : State) (b : Byte) : (s.dataPortWrite b).ntMem = (s.vWrite s.vaddr b).ntMem := by simp [State.dataPortWrite]
@[simp] theorem dataPortWrite_atMem (s : State) (b : Byte) : (s.dataPortWrite b).atMem = (s.vWrite s.vaddr b).atMem := by simp [State.dataPortWrite]
@[simp] theorem dataPortWrite_scrdis (s : State) (b : Byte) : (s.dataPortWrite b).scrdis = s.scrdis := by simp [State.dataPortWrite]
@[simp] theorem dataPortWrite_pend (s : State) (b : Byte) : (s.dataPortWrite b).pend = s.pend := by simp [State.dataPortWrite]
@[simp] theorem dataPortWrite_fsc (s : State) (b : Byte) : (s.dataPortWrite b).fsc = s.fsc := by simp [State.dataPortWrite]
@[simp] theorem dataPortWrite_shutReq (s : State) (b : Byte) : (s.dataPortWrite b).shutReq = s.shutReq := by simp [State.dataPortWrite]
@[simp] theorem dataPortWrite_err (s : State) (b : Byte) : (s.dataPortWrite b).err = s.err := by simp [State.dataPortWrite]
@[simp] theorem dataPortWrite_lastErr (s : State) (b : Byte) : (s.dataPortWrite b).lastErr = s.lastErr := by simp [State.dataPortWrite]
@[simp] theorem dataPortWrite_inputs (s : State) (b : Byte) : (s.dataPortWrite b).inputs = s.inputs := by simp [State.dataPortWrite]
@[simp] theorem dataPortWrite_resps (s : State) (b : Byte) : (s.dataPortWrite b).resps = s.resps := by simp [State.dataPortWrite]
@[simp] theorem dataPortWrite_epoch (s : State) (b : Byte) : (s.dataPortWrite b).epoch = s.epoch := by simp [State.dataPortWrite]

@[simp] theorem applyEntry_cfg (s : State) (e : Entry) : (s.applyEntry e).cfg = s.cfg := by simp [State.applyEntry]
@[simp] theorem applyEntry_ctrl1 (s : State) (e : Entry) : (s.applyEntry e).ctrl1 = s.ctrl1 := by simp [State.applyEntry]
@[simp] theorem applyEntry_ctrl2 (s : State) (e : Entry) : (s.applyEntry e).ctrl2 = s.ctrl2 := by simp [State.applyEntry]
@[simp] theorem applyEntry_status (s : State) (e : Entry) : (s.applyEntry e).status = s.status := by simp [State.applyEntry]
@[simp] theorem applyEntry_oamAddr (s : State) (e : Entry) : (s.applyEntry e).oamAddr = s.oamAddr := by simp [State.applyEntry]
@[simp] theorem applyEntry_oamData (s : State) (e : Entry) : (s.applyEntry e).oamData = s.oamData := by simp [State.applyEntry]
@[simp] theorem applyEntry_scrollX (s : State) (e : Entry) : (s.applyEntry e).scrollX = s.scrollX := by simp [State.applyEntry]
@[simp] theorem applyEntry_scrollY (s : State) (e : Entry) : (s.applyEntry e).scrollY = s.scrollY := by simp [State.applyEntry]
@[simp] theorem applyEntry_w (s : State) (e : Entry) : (s.applyEntry e).w = s.w := by simp [State.applyEntry]
@[simp] theorem applyEntry_queue (s : State) (e : Entry) : (s.applyEntry e).queue = s.queue := by simp [State.applyEntry]
@[simp] theorem applyEntry_sprMem (s : State) (e : Entry) : (s.applyEntry e).sprMem = s.sprMem := by simp [State.applyEntry]
@[simp] theorem applyEntry_nextCtrl1 (s : State) (e : Entry) : (s.applyEntry e).nextCtrl1 = s.nextCtrl1 := by simp [State.applyEntry]
@[simp] theorem applyEntry_nextCtrl2 (s : State) (e : Entry) : (s.applyEntry e).nextCtrl2 = s.nextCtrl2 := by simp [State.applyEntry]
@[simp] theorem applyEntry_nextScrollX (s : State) (e : Entry) : (s.applyEntry e).nextScrollX = s.nextScrollX := by simp [State.applyEntry]
@[simp] theorem applyEntry_nextScrollY (s : State) (e : Entry) : (s.applyEntry e).nextScrollY = s.nextScrollY := by simp [State.applyEntry]
@[simp] theorem applyEntry_scrdis (s : State) (e : Entry) : (s.applyEntry e).scrdis = s.scrdis := by simp [State.applyEntry]
@[simp] theorem applyEntry_pend (s : State) (e : Entry) : (s.applyEntry e).pend = s.pend := by simp [State.applyEntry]
@[simp] theorem applyEntry_fsc (s : State) (e : Entry) : (s.applyEntry e).fsc = s.fsc := by simp [State.applyEntry]
@[simp] theorem applyEntry_shutReq (s : State) (e : Entry) : (s.applyEntry e).shutReq = s.shutReq := by simp [State.applyEntry]
@[simp] theorem applyEntry_err (s : State) (e : Entry) : (s.applyEntry e).err = s.err := by simp [State.applyEntry]
@[simp] theorem applyEntry_lastErr (s : State) (e : Entry) : (s.applyEntry e).lastErr = s.lastErr := by simp [State.applyEntry]
@[simp] theorem applyEntry_inputs (s : State) (e : Entry) : (s.applyEntry e).inputs = s.inputs := by simp [State.applyEntry]
@[simp] theorem applyEntry_resps (s : State) (e : Entry) : (s.applyEntry e).resps = s.resps := by simp [State.applyEntry]
@[simp] theorem applyEntry_epoch (s : State) (e : Entry) : (s.applyEntry e).epoch = s.epoch := by simp [State.applyEntry]
@[simp] theorem applyEntry_vaddr (s : State) (e : Entry) : (s.applyEntry e).vaddr = s.bump e.addr := rfl

@[simp] theorem applyEntries_cfg (s : State) (es : List Entry) : (s.applyEntries es).cfg = s.cfg := by
  induction es generalizing s with
  | nil => rfl
  | cons e es ih => exact (ih (s.applyEntry e)).trans (by simp)
@[simp] theorem applyEntries_ctrl1 (s : State) (es : List Entry) : (s.applyEntries es).ctrl1 = s.ctrl1 := by
  induction es generalizing s with
  | nil => rfl
  | cons e es ih => exact (ih (s.applyEntry e)).trans (by simp)
@[simp] theorem applyEntries_ctrl2 (s : State) (es : List Entry) : (s.applyEntries es).ctrl2 = s.ctrl2 := by
  induction es generalizing s with
  | nil => rfl
  | cons e es ih => exact (ih (s.applyEntry e)).trans (by simp)
@[simp] theorem applyEntries_status (s : State) (es : List Entry) : (s.applyEntries es).status = s.status := by
  induction es generalizing s with
  | nil => rfl
  | cons e es ih => exact (ih (s.applyEntry e)).trans (by simp)
@[simp] theorem applyEntries_oamAddr (s : State) (es : List Entry) : (s.applyEntries es).oamAddr = s.oamAddr := by
  induction es generalizing s with
  | nil => rfl
  | cons e es ih => exact (ih (s.applyEntry e)).trans (by simp)
@[simp] theorem applyEntries_oamData (s : State) (es : List Entry) : (s.applyEntries es).oamData = s.oamData := by
  induction es generalizing s with
  | nil => rfl
  | cons e es ih => exact (ih (s.applyEntry e)).trans (by simp)
@[simp] theorem applyEntries_scrollX (s : State) (es : List Entry) : (s.applyEntries es).scrollX = s.scrollX := by
  induction es generalizing s with
  | nil => rfl
  | cons e es ih => exact (ih (s.applyEntry e)).trans (by simp)
@[simp] theorem applyEntries_scrollY (s : State) (es : List Entry) : (s.applyEntries es).scrollY = s.scrollY := by
  induction es generalizing s with
  | nil => rfl
  | cons e es ih => exact (ih (s.applyEntry e)).trans (by simp)
@[simp] theorem applyEntries_w (s : State) (es : List Entry) : (s.applyEntries es).w = s.w := by
  induction es generalizing s with
  | nil => rfl
  | cons e es ih => exact (ih (s.applyEntry e)).trans (by simp)
@[simp] theorem applyEntries_queue (s : State) (es : List Entry) : (s.applyEntries es).queue = s.queue := by
  induction es generalizing s with
  | nil => rfl
  | cons e es ih => exact (ih (s.applyEntry e)).trans (by simp)
@[simp] theorem applyEntries_sprMem (s : State) (es : List Entry) : (s.applyEntries es).sprMem = s.sprMem := by
  induction es generalizing s with
  | nil => rfl
  | cons e es ih => exact (ih (s.applyEntry e)).trans (by simp)
@[simp] theorem applyEntries_nextCtrl1 (s : State) (es : List Entry) : (s.applyEntries es).nextCtrl1 = s.nextCtrl1 := by
  induction es generalizing s with
  | nil => rfl
  | cons e es ih => exact (ih (s.applyEntry e)).trans (by simp)
@[simp] theorem applyEntries_nextCtrl2 (s : State) (es : List Entry) : (s.applyEntries es).nextCtrl2 = s.nextCtrl2 := by
  induction es generalizing s with
  | nil => rfl
  | cons e es ih => exact (ih (s.applyEntry e)).trans (by simp)
@[simp] theorem applyEntries_nextScrollX (s : State) (es : List Entry) : (s.applyEntries es).nextScrollX = s.nextScrollX := by
  induction es generalizing s with
  | nil => rfl
  | cons e es ih => exact (ih (s.applyEntry e)).trans (by simp)
@[simp] theorem applyEntries_nextScrollY (s : State) (es : List Entry) : (s.applyEntries es).nextScrollY = s.nextScrollY := by
  induction es generalizing s with
  | nil => rfl
  | cons e es ih => exact (ih (s.applyEntry e)).trans (by simp)
@[simp] theorem applyEntries_scrdis (s : State) (es : List Entry) : (s.applyEntries es).scrdis = s.scrdis := by
  induction es generalizing s with
  | nil => rfl
  | cons e es ih => exact (ih (s.applyEntry e)).trans (by simp)
@[simp] theorem applyEntries_pend (s : State) (es : List Entry) : (s.applyEntries es).pend = s.pend := by
  induction es generalizing s with
  | nil => rfl
  | cons e es ih => exact (ih (s.applyEntry e)).trans (by simp)
@[simp] theorem applyEntries_fsc (s : State) (es : List Entry) : (s.applyEntries es).fsc = s.fsc := by
  induction es generalizing s with
  | nil => rfl
  | cons e es ih => exact (ih (s.applyEntry e)).trans (by simp)
@[simp] theorem applyEntries_shutReq (s : State) (es : List Entry) : (s.applyEntries es).shutReq = s.shutReq := by
  induction es generalizing s with
  | nil => rfl
  | cons e es ih => exact (ih (s.applyEntry e)).trans (by simp)
@[simp] theorem applyEntries_err (s : State) (es : List Entry) : (s.applyEntries es).err = s.err := by
  induction es generalizing s with
  | nil => rfl
  | cons e es ih => exact (ih (s.applyEntry e)).trans (by simp)
@[simp] theorem applyEntries_lastErr (s : State) (es : List Entry) : (s.applyEntries es).lastErr = s.lastErr := by
  induction es generalizing s with
  | nil => rfl
  | cons e es ih => exact (ih (s.applyEntry e)).trans (by simp)
@[simp] theorem applyEntries_inputs (s : State) (es : List Entry) : (s.applyEntries es).inputs = s.inputs := by
  induction es generalizing s with
  | nil => rfl
  | cons e es ih => exact (ih (s.applyEntry e)).trans (by simp)
@[simp] theorem applyEntries_resps (s : State) (es : List Entry) : (s.applyEntries es).resps = s.resps := by
  induction es generalizing s with
  | nil => rfl
  | cons e es ih => exact (ih (s.applyEntry e)).trans (by simp)
@[simp] theorem applyEntries_epoch (s : State) (es : List Entry) : (s.applyEntries es).epoch = s.epoch := by
  induction es generalizing s with
  | nil => rfl
  | cons e es ih => exact (ih (s.applyEntry e)).trans (by simp)

@[simp] theorem flush_cfg (s : State) : (s.flush).cfg = s.cfg := by simp [State.flush]
@[simp] theorem flush_ctrl1 (s : State) : (s.flush).ctrl1 = s.ctrl1 := by simp [State.flush]
@[simp] theorem flush_ctrl2 (s : State) : (s.flush).ctrl2 = s.ctrl2 := by simp [State.flush]
@[simp] theorem flush_status (s : State) : (s.flush).status = s.status := by simp [State.flush]
@[simp] theorem flush_oamAddr (s : State) : (s.flush).oamAddr = s.oamAddr := by simp [State.flush]
@[simp] theorem flush_oamData (s : State) : (s.flush).oamData = s.oamData := by simp [State.flush]
@[simp] theorem flush_scrollX (s : State) : (s.flush).scrollX = s.scrollX := by simp [State.flush]
@[simp] theorem flush_scrollY (s : State) : (s.flush).scrollY = s.scrollY := by simp [State.flush]
@[simp] theorem flush_vaddr (s : State) : (s.flush).vaddr = (s.applyEntries s.queue).vaddr := by simp [State.flush]
@[simp] theorem flush_w (s : State) : (s.flush).w = s.w := by simp [State.flush]
@[simp] theorem flush_queue (s : State) : (s.flush).queue = [] := by simp [State.flush]
@[simp] theorem flush_sprMem (s : State) : (s.flush).sprMem = s.sprMem := by simp [State.flush]
@[simp] theorem flush_nextCtrl1 (s : State) : (s.flush).nextCtrl1 = s.nextCtrl1 := by simp [State.flush]
@[simp] theorem flush_nextCtrl2 (s : State) : (s.flush).nextCtrl2 = s.nextCtrl2 := by simp [State.flush]
@[simp] theorem flush_nextScrollX (s : State) : (s.flush).nextScrollX = s.nextScrollX := by simp [State.flush]
@[simp] theorem flush_nextScrollY (s : State) : (s.flush).nextScrollY = s.nextScrollY := by simp [State.flush]
@[simp] theorem flush_ntMem (s : State) : (s.flush).ntMem = (s.applyEntries s.queue).ntMem := by simp [State.flush]
@[simp] theorem flush_atMem (s : State) : (s.flush).atMem = (s.applyEntries s.queue).atMem := by simp [State.flush]
@[simp] theorem flush_scrdis (s : State) : (s.flush).scrdis = s.scrdis := by simp [State.flush]
@[simp] theorem flush_pend (s : State) : (s.flush).pend = s.pend := by simp [State.flush]
@[simp] theorem flush_fsc (s : State) : (s.flush).fsc = s.fsc := by simp [State.flush]
@[simp] theorem flush_shutReq (s : State) : (s.flush).shutReq = s.shutReq := by simp [State.flush]
@[simp] theorem flush_err (s : State) : (s.flush).err = s.err := by simp [State.flush]
@[simp] theorem flush_lastErr (s : State) : (s.flush).lastErr = s.lastErr := by simp [State.flush]
@[simp] theorem flush_inputs (s : State) : (s.flush).inputs = s.inputs := by simp [State.flush]
@[simp] theorem flush_resps (s : State) : (s.flush).resps = s.resps := by simp [State.flush]
@[simp] theorem flush_epoch (s : State) : (s.flush).epoch = s.epoch := by simp [State.flush]

/-- What a VRAM read sees after a store: the byte at the stored address if it is backed, elsewhere what it saw before. -/
theorem vRead_vWrite (s : State) (h : s.cfg.Valid) (a c : Addr) (b : Byte) :
    (s.vWrite a b).vRead c = if c = a ∧ s.inNt a = true ∨ c = a ∧ s.inAt a = true then some b else s.vRead c := by
  have inj : c = a ↔ c.toNat = a.toNat := BitVec.toNat_inj.symm
  obtain ⟨_, _, _, _, _, _, _, _, hd, _⟩ := h
  obtain ⟨h1, hw⟩ | ⟨h1, h2, hw⟩ | ⟨h1, h2, hw⟩ := vWrite_cases s a b <;>
    simp only [hw, State.vRead, State.inNt, State.inAt, State.ntByte, State.atByte, Memory.read_write, inj,
      decide_eq_true_eq, decide_eq_false_iff_not] at * <;>
    split_ifs <;> first | rfl | (exfalso; omega)

/-- A VRAM read depends on the parameters, the two memories and the reset number alone. -/
theorem vRead_congr {s t : State} (hc : t.cfg = s.cfg) (hn : t.ntMem = s.ntMem) (ha : t.atMem = s.atMem)
    (he : t.epoch = s.epoch) (a : Addr) : t.vRead a = s.vRead a := by
  obtain ⟨⟩ := s
  obtain ⟨⟩ := t
  simp only at hc hn ha he
  subst hc hn ha he
  rfl

/-- A sprite field depends on the sprite memory and the reset number alone. -/
theorem sprByte_congr {s t : State} (hm : t.sprMem = s.sprMem) (he : t.epoch = s.epoch) (i : Nat) (f : SlotField) :
    t.sprByte i f = s.sprByte i f := by
  simp only [State.sprByte, hm, he]

/-- The sprite fields after `SPRSET`'s write. -/
theorem sprByte_setSlot (s : State) (i j : Nat) (x y t a : Byte) (f : SlotField) :
    (s.setSlot i x y t a).sprByte j f =
      if j = i then (match f with | .x => x | .y => y | .tile => t | .attr => a) else s.sprByte j f := by
  by_cases h : j = i <;> cases f <;> simp [State.sprByte, State.setSlot, Memory.read_writeField, h]

/-- The sprite fields after `SPRCLR`'s writes. -/
theorem sprByte_hideSprites (s : State) (j : Nat) (f : SlotField) :
    s.hideSprites.sprByte j f =
      if 1 ≤ j ∧ j ≤ s.cfg.nsprites - 1 ∧ f = .y then s.cfg.offscreenY else s.sprByte j f := by
  simp only [State.sprByte, hideSprites_sprMem, hideSprites_epoch, Memory.read_hideSlots]
  split_ifs <;> rfl

/-- An entry applied loads `VADDR` and stores as the data port does. -/
theorem vRead_applyEntry (s : State) (h : s.cfg.Valid) (e : Entry) (c : Addr) :
    (s.applyEntry e).vRead c =
      if c = e.addr ∧ s.inNt c = true ∨ c = e.addr ∧ s.inAt c = true then some e.data else s.vRead c := by
  refine (vRead_congr rfl rfl rfl rfl c : _ = (({ s with vaddr := e.addr } : State).vWrite e.addr e.data).vRead c).trans ?_
  rw [vRead_vWrite { s with vaddr := e.addr } h]
  by_cases hc : c = e.addr
  · subst hc; rfl
  · simp only [hc, false_and, or_self, if_false]; rfl

/-- Entries applied in order: the newest one for an address is what it reads as (R143). -/
theorem vRead_applyEntries (s : State) (h : s.cfg.Valid) (es : List Entry) (c : Addr) :
    (s.applyEntries es).vRead c =
      if (s.inNt c || s.inAt c) = true then ((es.reverse.find? fun e => e.addr == c).map Entry.data).or (s.vRead c)
      else s.vRead c := by
  induction es generalizing s with
  | nil => simp [State.applyEntries]
  | cons e es ih =>
    have hcfg : (s.applyEntry e).cfg = s.cfg := applyEntry_cfg s e
    have hn : (s.applyEntry e).inNt c = s.inNt c := by simp only [State.inNt, hcfg]
    have ha : (s.applyEntry e).inAt c = s.inAt c := by simp only [State.inAt, hcfg]
    rw [show s.applyEntries (e :: es) = (s.applyEntry e).applyEntries es from rfl, ih _ (hcfg ▸ h), vRead_applyEntry s h, hn,
      ha, List.reverse_cons, List.find?_append]
    cases hb : s.inNt c || s.inAt c
    · obtain ⟨h1, h2⟩ := Bool.or_eq_false_iff.1 hb
      simp only [h1, h2, Bool.false_eq_true, and_false, or_self, if_false]
    · have hb' : c = e.addr ∧ s.inNt c = true ∨ c = e.addr ∧ s.inAt c = true ↔ e.addr = c := by
        rw [← and_or_left, ← Bool.or_eq_true, hb]; simp [eq_comm]
      simp only [hb', if_true]
      cases hf : es.reverse.find? fun e => e.addr == c with
      | some e' => rfl
      | none =>
        by_cases hc : e.addr = c
        · simp [hc]
        · simp [hc]

/-- `VADDR` after entries applied: the last entry's address and the increment, or what it was (R143). -/
theorem applyEntries_vaddr_append (s : State) (es : List Entry) (e : Entry) :
    (s.applyEntries (es ++ [e])).vaddr = s.bump e.addr := by
  simp only [State.applyEntries, List.foldl_append, List.foldl_cons, List.foldl_nil, applyEntry_vaddr]
  simp only [State.bump, State.inc]
  rw [show es.foldl State.applyEntry s = s.applyEntries es from rfl, applyEntries_ctrl1, applyEntries_cfg]

/-- Applying one entry does not look at the inputs. -/
theorem applyEntry_withInputs (s : State) (r : List Action) (e : Entry) :
    ({ s with inputs := r } : State).applyEntry e = { s.applyEntry e with inputs := r } := by
  unfold State.applyEntry State.dataPortWrite State.vWrite
  cases h1 : s.inNt e.addr <;> cases h2 : s.inAt e.addr <;> unfold State.inNt State.inAt at * <;>
    simp only [h1, h2, if_true, Bool.false_eq_true, if_false] <;> rfl

/-- Applying entries does not look at the inputs. -/
theorem applyEntries_withInputs (s : State) (r : List Action) (es : List Entry) :
    ({ s with inputs := r } : State).applyEntries es = { s.applyEntries es with inputs := r } := by
  induction es generalizing s with
  | nil => rfl
  | cons e es ih =>
    exact (congrArg (State.applyEntries · es) (applyEntry_withInputs s r e)).trans (ih (s.applyEntry e))

/-- The flush does not look at the inputs. -/
theorem flush_withInputs (s : State) (r : List Action) :
    ({ s with inputs := r } : State).flush = { s.flush with inputs := r } := by
  simp only [State.flush, applyEntries_withInputs]

/-- The entry of a tick, once: it raises violation 1 or it flushes and starts the callback (R195). -/
theorem enterTick_cases (s : State) :
    (s.queue ≠ [] ∧ s.flushLegal = false ∧ s.enterTick = { s with
      pend := false, err := s.err ||| 0x01#8, lastErr := 1#4, fsc := abandonTick s.fsc }) ∨
    ((s.queue = [] ∨ s.flushLegal = true) ∧ s.enterTick = { s.flush with pend := false, fsc := .runningTick }) := by
  unfold State.enterTick
  cases hq : s.queue <;> cases hf : s.flushLegal <;> simp [State.raise, violationBit, violationNumber]

/-- A flag written reads back, every other bit is kept. -/
theorem getLsbD_writeFlag (v : Byte) (j : Fin 8) (b : Bool) (k : Nat) :
    (writeFlag v (BitVec.twoPow 8 j) b).getLsbD k = if k = j then b else v.getLsbD k := by
  by_cases hk : k < 8
  · cases b <;> by_cases hj : k = j <;> simp [writeFlag, hj, hk, eq_comm]
  · rw [BitVec.getLsbD_of_ge _ _ (by omega), BitVec.getLsbD_of_ge _ _ (by omega), if_neg (by omega)]

/-- A data-port store keeps the canonical form of NametableMemory (R62). -/
theorem vWrite_ntWf (s : State) (a : Addr) (b : Byte) (h : s.ntMem.wf s.cfg.ntSize) : (s.vWrite a b).ntMem.wf s.cfg.ntSize := by
  obtain ⟨h1, hw⟩ | ⟨_, _, hw⟩ | ⟨_, _, hw⟩ := vWrite_cases s a b <;> rw [hw]
  · simp only [State.inNt, decide_eq_true_eq] at h1
    exact Memory.wf_write b h (by omega)
  · exact h
  · exact h

/-- A data-port store keeps the canonical form of AttributeMemory (R62). -/
theorem vWrite_atWf (s : State) (a : Addr) (b : Byte) (h : s.atMem.wf s.cfg.atSize) : (s.vWrite a b).atMem.wf s.cfg.atSize := by
  obtain ⟨_, hw⟩ | ⟨_, h1, hw⟩ | ⟨_, _, hw⟩ := vWrite_cases s a b <;> rw [hw]
  · exact h
  · simp only [State.inAt, decide_eq_true_eq] at h1
    exact Memory.wf_write b h (by omega)
  · exact h

/-- Applying entries keeps the canonical form of both memories. -/
theorem applyEntries_wf (s : State) (es : List Entry) (hn : s.ntMem.wf s.cfg.ntSize) (ha : s.atMem.wf s.cfg.atSize) :
    (s.applyEntries es).ntMem.wf s.cfg.ntSize ∧ (s.applyEntries es).atMem.wf s.cfg.atSize := by
  induction es generalizing s with
  | nil => exact ⟨hn, ha⟩
  | cons e es ih =>
    have := ih (s.applyEntry e)
    rw [applyEntry_cfg] at this
    exact this (vWrite_ntWf { s with vaddr := e.addr } e.addr e.data hn) (vWrite_atWf { s with vaddr := e.addr } e.addr e.data ha)

/-- A slot written keeps the canonical form of the sprite table (R170). -/
theorem setSlot_wf (s : State) (n i : Nat) (x y t a : Byte) (h : s.sprMem.wf (4 * n)) (hi : i < n) :
    (s.setSlot i x y t a).sprMem.wf (4 * n) :=
  Memory.wf_writeField _ _ (Memory.wf_writeField _ _ (Memory.wf_writeField _ _ (Memory.wf_writeField _ _ h hi) hi) hi) hi

end Sys2Proof.Machine
end

