-- ==== Sys2Proof/Laws/PerInstr.lean ====
section
/-! SUPPORT. Per command: its row of the opcode map. -/

namespace Sys2Proof.Laws.OpcodeRow

/-- The command's mnemonic has one row in the opcode map, and the encoder writes that row's opcode (R93). -/
def Statement (i : Instr) : Prop :=
  (opcodeMap.filter fun r => r.mnemonic == (disassemble i).mnemonic).map OpRow.op = [opcodeField (encode i)]

theorem wrctrl1 (d : Byte) : Statement (.wrctrl1 d) := by simp [Statement, encode, disassemble, opcodeMap, opcodeMapPorts]
theorem wrctrl2 (d : Byte) : Statement (.wrctrl2 d) := by simp [Statement, encode, disassemble, opcodeMap, opcodeMapPorts]
theorem wroamaddr (d : Byte) : Statement (.wroamaddr d) := by simp [Statement, encode, disassemble, opcodeMap, opcodeMapPorts]
theorem wroamdata (d : Byte) : Statement (.wroamdata d) := by simp [Statement, encode, disassemble, opcodeMap, opcodeMapPorts]
theorem wrscroll (d : Byte) : Statement (.wrscroll d) := by simp [Statement, encode, disassemble, opcodeMap, opcodeMapPorts]
theorem wraddr (d : Byte) : Statement (.wraddr d) := by simp [Statement, encode, disassemble, opcodeMap, opcodeMapPorts]
theorem wrdata (d : Byte) : Statement (.wrdata d) := by simp [Statement, encode, disassemble, opcodeMap, opcodeMapPorts]
theorem rdctrl1 : Statement .rdctrl1 := by simp [Statement, encode, disassemble, opcodeMap, opcodeMapPorts]
theorem rdctrl2 : Statement .rdctrl2 := by simp [Statement, encode, disassemble, opcodeMap, opcodeMapPorts]
theorem rdstatus : Statement .rdstatus := by simp [Statement, encode, disassemble, opcodeMap, opcodeMapPorts]
theorem rdoamaddr : Statement .rdoamaddr := by simp [Statement, encode, disassemble, opcodeMap, opcodeMapPorts]
theorem rdoamdata : Statement .rdoamdata := by simp [Statement, encode, disassemble, opcodeMap, opcodeMapPorts]
theorem rdscroll : Statement .rdscroll := by simp [Statement, encode, disassemble, opcodeMap, opcodeMapPorts]
theorem rdaddr : Statement .rdaddr := by simp [Statement, encode, disassemble, opcodeMap, opcodeMapPorts]
theorem enq (addr : Addr) (d : Byte) : Statement (.enq addr d) := by simp [Statement, encode, disassemble, opcodeMap, opcodeMapPorts]
theorem rdqlen : Statement .rdqlen := by simp [Statement, encode, disassemble, opcodeMap, opcodeMapPorts]
theorem setnctrl1 (d : Byte) : Statement (.setnctrl1 d) := by simp [Statement, encode, disassemble, opcodeMap, opcodeMapPorts]
theorem setnctrl2 (d : Byte) : Statement (.setnctrl2 d) := by simp [Statement, encode, disassemble, opcodeMap, opcodeMapPorts]
theorem setnscroll (hi : Byte) (lo : Byte) : Statement (.setnscroll hi lo) := by simp [Statement, encode, disassemble, opcodeMap, opcodeMapPorts]
theorem setscrdis (d : Byte) : Statement (.setscrdis d) := by simp [Statement, encode, disassemble, opcodeMap, opcodeMapPorts]
theorem cbret (d : Byte) : Statement (.cbret d) := by simp [Statement, encode, disassemble, opcodeMap, opcodeMapPorts]
theorem rderr : Statement .rderr := by simp [Statement, encode, disassemble, opcodeMap, opcodeMapPorts]
theorem rdfsc : Statement .rdfsc := by simp [Statement, encode, disassemble, opcodeMap, opcodeMapPorts]
theorem sprset (idx : Byte) (x : Byte) (y : Byte) (tile : Byte) (attr : Byte) : Statement (.sprset idx x y tile attr) := by simp [Statement, encode, disassemble, opcodeMap, opcodeMapPorts]
theorem sprclr : Statement .sprclr := by simp [Statement, encode, disassemble, opcodeMap, opcodeMapPorts]
theorem sprget (idx : Byte) : Statement (.sprget idx) := by simp [Statement, encode, disassemble, opcodeMap, opcodeMapPorts]
theorem reinit : Statement .reinit := by simp [Statement, encode, disassemble, opcodeMap, opcodeMapPorts]

end Sys2Proof.Laws.OpcodeRow
end

