-- ==== Sys2Proof/Laws/Step.lean ====
section
/-! SUPPORT. What a step can do, once: a step on its next transition, and the cases of a step that answers a next state. -/

namespace Sys2Proof.Machine

/-- A step with inputs left runs the first of them. -/
theorem step_facing {s : State} {a : Action} {rest : List Action} (h : s.Facing a rest) :
    step s = runAction a { s with inputs := rest } := by
  obtain ⟨hv, hi⟩ := h
  simp only [step, if_pos hv, takeInput, hi]

/-- A step on a host word that decodes runs its command. -/
theorem step_command {s : State} {w : CmdWord} {rest : List Action} {i : Instr} (h : s.Facing (.host w) rest)
    (hd : decode w = .ok i) : step s = exec i { s with inputs := rest } := by
  simp only [step_facing h, runAction, runCommand, hd]

theorem tickStartEnabled_iff (s : State) :
    s.tickStartEnabled = true ↔ s.fsc = .waitingForSync ∧ s.pend = true ∧ s.shutReq = false := by
  simp [State.tickStartEnabled, and_assoc]

theorem stopEnabled_iff (s : State) : s.stopEnabled = true ↔ s.fsc = .waitingForSync ∧ s.shutReq = true := by
  simp [State.stopEnabled]

theorem awaitsSync_iff (s : State) :
    s.awaitsSync = true ↔ s.fsc = .waitingForSync ∧ s.pend = false ∧ s.shutReq = false := by
  simp [State.awaitsSync, and_assoc]

/-- The wait is `WaitingForSync` with no step of the FSC enabled (R202, R206). -/
theorem awaitsSync_iff_nothing_enabled (s : State) :
    s.awaitsSync = true ↔ s.fsc = .waitingForSync ∧ s.tickStartEnabled = false ∧ s.stopEnabled = false := by
  cases hf : s.fsc <;> cases hp : s.pend <;> cases hq : s.shutReq <;>
    simp [State.awaitsSync, State.tickStartEnabled, State.stopEnabled, hf, hp, hq]

/-- The cases of a step that answers a next state: a command, an illegal word, an event, the entry of a tick, or the
stop of the loop; the last two by their action or with no input left. -/
theorem step_cases {s t : State} (h : step s = .next t) : s.cfg.Valid ∧
    ((∃ w rest i, s.inputs = .host w :: rest ∧ decode w = .ok i ∧ exec i { s with inputs := rest } = .next t) ∨
     (∃ w rest e, s.inputs = .host w :: rest ∧ decode w = .error e ∧ t = ({ s with inputs := rest } : State).illegal) ∨
     (∃ e rest, s.inputs = .video e :: rest ∧ t = videoEvent e { s with inputs := rest }) ∨
     (∃ e rest, s.inputs = .supervisor e :: rest ∧ t = supervisorEvent e { s with inputs := rest }) ∨
     (∃ rest, (s.inputs = .fsc .tickStart :: rest ∨ s.inputs = [] ∧ rest = []) ∧
       s.fsc = .waitingForSync ∧ s.pend = true ∧ s.shutReq = false ∧ t = ({ s with inputs := rest } : State).enterTick) ∨
     (∃ rest, (s.inputs = .fsc .stop :: rest ∨ s.inputs = [] ∧ rest = []) ∧
       s.fsc = .waitingForSync ∧ s.shutReq = true ∧ t = ({ s with inputs := rest } : State).stop)) := by
  unfold step at h
  split at h
  · refine ⟨‹_›, ?_⟩
    unfold takeInput at h
    split at h
    · rename_i hi
      have hs : ({ s with inputs := [] } : State) = s := by rw [← hi]
      unfold idle at h
      split at h
      · obtain ⟨h1, h2, h3⟩ := (tickStartEnabled_iff s).1 ‹_›
        cases h
        exact .inr (.inr (.inr (.inr (.inl ⟨[], .inr ⟨hi, rfl⟩, h1, h2, h3, by rw [hs]⟩))))
      · split at h
        · obtain ⟨h1, h2⟩ := (stopEnabled_iff s).1 ‹_›
          cases h
          exact .inr (.inr (.inr (.inr (.inr ⟨[], .inr ⟨hi, rfl⟩, h1, h2, by rw [hs]⟩))))
        · cases h
    · rename_i a rest hi
      match a, hi, h with
      | .host w, hi, h =>
        simp only [runAction, runCommand] at h
        split at h
        · exact .inl ⟨w, rest, _, hi, ‹_›, h⟩
        · cases h; exact .inr (.inl ⟨w, rest, _, hi, ‹_›, rfl⟩)
      | .video e, hi, h => cases h; exact .inr (.inr (.inl ⟨e, rest, hi, rfl⟩))
      | .supervisor e, hi, h => cases h; exact .inr (.inr (.inr (.inl ⟨e, rest, hi, rfl⟩)))
      | .fsc .tickStart, hi, h =>
        simp only [runAction, runFsc] at h
        split at h
        · obtain ⟨h1, h2, h3⟩ := (tickStartEnabled_iff _).1 ‹_›
          cases h
          exact .inr (.inr (.inr (.inr (.inl ⟨rest, .inl hi, h1, h2, h3, rfl⟩))))
        · cases h
      | .fsc .stop, hi, h =>
        simp only [runAction, runFsc] at h
        split at h
        · obtain ⟨h1, h2⟩ := (stopEnabled_iff _).1 ‹_›
          cases h
          exact .inr (.inr (.inr (.inr (.inr ⟨rest, .inl hi, h1, h2, rfl⟩))))
        · cases h
  · cases h

/-- A run whose first step answers a next state goes on from it. -/
theorem run_of_next (M : Host.Core) {n : Nat} {s u : M.State} (h : M.step s = .next u) : M.run (n + 1) s = M.run n u := by
  rw [Host.Core.run, h]

/-- A run that completes has a first step that answers a next state. -/
theorem next_of_run (M : Host.Core) {n : Nat} {s t : M.State} (h : M.run (n + 1) s = .next t) :
    ∃ u, M.step s = .next u ∧ M.run n u = .next t := by
  rw [Host.Core.run] at h
  split at h
  · exact ⟨_, ‹_›, h⟩
  · cases h
  · cases h

/-- A run whose first step is refused is refused. -/
theorem run_of_refused (M : Host.Core) {n : Nat} {s : M.State} {r : M.Refusal} (h : M.step s = .refused r) :
    M.run (n + 1) s = .refused r := by
  rw [Host.Core.run, h]

end Sys2Proof.Machine
end

