-- ==== Sys2Proof/Tests/Slice0.lean ====
section
/-! SUPPORT. Tests. Expected values come from 95_test_vectors.md (S, V and program numbers) and 30_encoding.md; where a test
names neither, from the rule it names. The last part shows, for each statement with hypotheses, states that meet them. -/

namespace Sys2Proof.Tests

open Sys2Proof Sys2Proof.Machine

/-! ## Ill-formed terms are refused (R5, R92, R93, R94, R100, R102) -/

/-- R100: a must-be-zero bit of each format that has one; the words are those of V50. -/
theorem smoke_must_be_zero_bits :
    legalWord 0x120000000001#48 = false ∧ legalWord 0x050000000105#48 = false ∧ legalWord 0x3200000103FF#48 = false ∧
    legalWord 0x200100200024#48 = false ∧ legalWord 0x420100000001#48 = false := by decide

/-- R101, V50: an opcode of no row. -/
theorem smoke_unknown_opcodes :
    legalWord 0x020000000000#48 = false ∧ legalWord 0x170000000000#48 = false ∧ legalWord 0xFF0000000000#48 = false := by
  decide

/-- V51: the extremes are legal. -/
theorem smoke_extreme_words_are_legal :
    legalWord 0x3300000000FF#48 = true ∧ legalWord 0x200000FFFFFF#48 = true ∧ legalWord 0x40FFFFFFFFFF#48 = true := by
  decide

/-- R102: a mnemonic that is none, a missing and an extra operand, and (the model's choice, log entry 16)
an operand too large for its field. -/
theorem smoke_ill_formed_lines :
    Line.wellFormed ⟨"RDDATA", []⟩ = false ∧ Line.wellFormed ⟨"WRDATA", []⟩ = false ∧
    Line.wellFormed ⟨"RDSTATUS", [0]⟩ = false ∧ Line.wellFormed ⟨"WRDATA", [256]⟩ = false ∧
    Line.wellFormed ⟨"ENQ", [65536, 0]⟩ = false ∧ Line.wellFormed ⟨"ENQ", [65535, 255]⟩ = true := by decide

/-- The constraints of R5 hold of a record. -/
def admits (c : Config) : Bool := decide c.Valid

/-- R5: each constraint, broken alone from the defaults. -/
theorem smoke_bad_parameters :
    admits { Config.default with qcap := 0 } = false ∧ admits { Config.default with nsprites := 0 } = false ∧
    admits { Config.default with nsprites := 257 } = false ∧
    admits { Config.default with offscreenY := 239#8 } = false ∧
    admits { Config.default with ntSize := 1 } = false ∧ admits { Config.default with atSize := 0 } = false ∧
    admits { Config.default with ntBase := 0xFD00#16 } = false ∧
    admits { Config.default with atBase := 0xFFC1#16 } = false ∧
    admits { Config.default with atBase := 0x23BF#16 } = false ∧
    admits { Config.default with incBit := 7 } = false ∧ admits { Config.default with incLo := 0x10000 } = false ∧
    admits { Config.default with incHi := 0x10000 } = false := by decide

/-- R4, R5: the defaults and the boundary of each range are admitted. -/
theorem smoke_good_parameters :
    admits Config.default = true ∧
    admits { Config.default with
      qcap := 1, nsprites := 256, offscreenY := 240#8, ntSize := 2, atSize := 1, atBase := 0xFFFF#16,
      incLo := 0, incHi := 0xFFFF } = true := by decide

/-- R93: no two rows of the opcode map have one opcode, and there are 27 rows. -/
theorem smoke_rows_do_not_overlap :
    opcodeMap.Pairwise (fun r q => r.op ≠ q.op) ∧ opcodeMap.length = 27 := by decide

/-! ## Words written out from 30_encoding.md -/

/-- Port writes: formats B of R91, opcodes of R93; operands of V1, V4, V10 and V11. -/
theorem decode_port_writes :
    decode 0x000000000094#48 = .ok (.wrctrl1 0x94#8) ∧ decode 0x01000000001E#48 = .ok (.wrctrl2 0x1E#8) ∧
    decode 0x030000000040#48 = .ok (.wroamaddr 0x40#8) ∧ decode 0x040000000077#48 = .ok (.wroamdata 0x77#8) ∧
    decode 0x050000000010#48 = .ok (.wrscroll 0x10#8) ∧ decode 0x0600000000FF#48 = .ok (.wraddr 0xFF#8) ∧
    decode 0x070000000011#48 = .ok (.wrdata 0x11#8) := by decide

/-- Port reads: format N. -/
theorem decode_port_reads :
    decode 0x100000000000#48 = .ok .rdctrl1 ∧ decode 0x110000000000#48 = .ok .rdctrl2 ∧
    decode 0x120000000000#48 = .ok .rdstatus ∧ decode 0x130000000000#48 = .ok .rdoamaddr ∧
    decode 0x140000000000#48 = .ok .rdoamdata ∧ decode 0x150000000000#48 = .ok .rdscroll ∧
    decode 0x160000000000#48 = .ok .rdaddr := by decide

/-- Queue: format Q, address in bits 23:8 (S1, V22), and format N. -/
theorem decode_queue :
    decode 0x2000003F000F#48 = .ok (.enq 0x3F00#16 0x0F#8) ∧ decode 0x210000000000#48 = .ok .rdqlen := by decide

/-- Frame sync: formats B, P and N (V30, V33, V51). -/
theorem decode_frame_sync :
    decode 0x300000000084#48 = .ok (.setnctrl1 0x84#8) ∧ decode 0x31000000001E#48 = .ok (.setnctrl2 0x1E#8) ∧
    decode 0x320000000908#48 = .ok (.setnscroll 9#8 8#8) ∧ decode 0x3300000000FF#48 = .ok (.setscrdis 0xFF#8) ∧
    decode 0x3400000000FE#48 = .ok (.cbret 0xFE#8) ∧ decode 0x350000000000#48 = .ok .rderr ∧
    decode 0x360000000000#48 = .ok .rdfsc ∧ decode 0x7F0000000000#48 = .ok .reinit := by decide

/-- Sprites: formats S, N and I (V40, V41, V42). -/
theorem decode_sprites :
    decode 0x40005818FF23#48 = .ok (.sprset 0#8 0x58#8 0x18#8 0xFF#8 0x23#8) ∧
    decode 0x410000000000#48 = .ok .sprclr ∧ decode 0x423F00000000#48 = .ok (.sprget 63#8) := by decide

/-- V50: illegal words, each with its reason. -/
theorem decode_illegal_words :
    decode 0x7F0000000001#48 = .error (.mustBeZero 0x7F0000000001#48) ∧
    decode 0x200100200024#48 = .error (.mustBeZero 0x200100200024#48) ∧
    decode 0x170000000000#48 = .error (.reservedOpcode 0x17#8) := by decide

/-- R67, D5: the byte that holds the opcode is the first of the six; five bytes are no word. -/
theorem decode_from_bytes :
    decodeBytes [0x20#8, 0x00#8, 0x00#8, 0x20#8, 0x01#8, 0x24#8, 0x7F#8] = .ok (.enq 0x2001#16 0x24#8, [0x7F#8]) ∧
    decodeBytes [0x20#8, 0x00#8, 0x00#8, 0x20#8, 0x01#8] = .error .truncated := by decide

/-- The opcode table's numbering: bits `cmd[47:0]`; a number of more than 48 bits is no word (log entry 12). -/
theorem decode_table_words :
    decodeTableWord 48 0x420100000000 = some (.sprget 1#8) ∧ decodeTableWord 48 0x120000000001 = none ∧
    decodeTableWord 56 0x01120000000000 = none := by decide

/-- R102, R103: script lines; the words are those of R104 and V42. -/
theorem script_lines :
    scriptLine Config.default "SPRSET 1, 0x10, 0x20, 0x30, 0x01 ; slot 1".toList = some [.host 0x400110203001#48] ∧
    scriptLine Config.default "! EV_SPR0 1".toList = some [.video (.spr0 true)] ∧
    scriptLine Config.default "SETADDR 0x2400".toList =
      some [.host 0x120000000000#48, .host 0x060000000024#48, .host 0x060000000000#48] ∧
    scriptLine Config.default "WRDATA 256".toList = none ∧ scriptLine Config.default "; nothing".toList = some [] := by
  decide

/-! ## One step at a time -/

/-- A part of the next state, if there is one. -/
def after {α : Type} (o : Host.Outcome State Fault Refusal) (f : State → α) : Option α :=
  match o with
  | .next t => some (f t)
  | .fault _ => none
  | .refused _ => none

/-- The newest response. -/
def answerOf (t : State) : Option Resp := t.resps.head?

/-- The violation log and the controller. -/
def logOf (t : State) : Byte × BitVec 4 × Fsc := (t.err, t.lastErr, t.fsc)

/-- A running tick with the defaults. -/
def tick : State := { State.reset with fsc := .runningTick }

/-- A wake-up is due and one entry is queued. -/
def due : State := { State.reset with pend := true, queue := [⟨0x2000#16, 0x24#8⟩] }

/-- The same, with rendering on and the vblank flag clear (program D step 16). -/
def dueRendering : State := { due with ctrl2 := 0x08#8 }

/-- A full queue of 64 in a tick (V23). -/
def fullTick : State := { tick with queue := List.replicate 64 ⟨0x2000#16, 0#8⟩ }

/-- The action of a word. -/
def word (w : CmdWord) : Action := .host w

/-- The state with some inputs. -/
def feed (s : State) (as : List Action) : State := { s with inputs := as }

theorem test_wrctrl1 : after (exec (.wrctrl1 0x94#8) State.reset) (fun t => (t.ctrl1, t.w)) = some (0x94#8, false) := by
  decide -- V11
theorem test_wrctrl2 : after (exec (.wrctrl2 0x1E#8) State.reset) (fun t => (t.ctrl2, t.ctrl1)) = some (0x1E#8, 0#8) := by
  decide -- V11
theorem test_wroamaddr : after (exec (.wroamaddr 0x40#8) State.reset) (fun t => (t.oamAddr, t.oamData)) =
    some (0x40#8, 0#8) := by decide -- V10
theorem test_wroamdata : after (exec (.wroamdata 0x78#8) { State.reset with oamAddr := 0x40#8 })
    (fun t => (t.oamAddr, t.oamData, t.sprMem)) = some (0x40#8, 0x78#8, []) := by decide -- V10
theorem test_wrscroll_first : after (exec (.wrscroll 0x30#8) { State.reset with scrollX := 0x10#8, scrollY := 0x20#8 })
    (fun t => (t.scrollX, t.scrollY, t.w)) = some (0x30#8, 0x20#8, true) := by decide -- V1
theorem test_wrscroll_second : after (exec (.wrscroll 0x44#8) { State.reset with scrollX := 1#8, vaddr := 0x2102#16, w := true })
    (fun t => (t.scrollX, t.scrollY, t.vaddr, t.w)) = some (1#8, 0x44#8, 0x2102#16, false) := by decide -- V3
theorem test_wraddr_first : after (exec (.wraddr 0xFF#8) { State.reset with vaddr := 0x21AB#16 })
    (fun t => (t.vaddr, t.w)) = some (0xFFAB#16, true) := by decide -- V4
theorem test_wraddr_second : after (exec (.wraddr 0xFF#8) { State.reset with vaddr := 0xFFAB#16, w := true })
    (fun t => (t.vaddr, t.w)) = some (0xFFFF#16, false) := by decide -- V4
theorem test_wrdata_last_nametable_byte : after (exec (.wrdata 0xA1#8) { State.reset with vaddr := 0x23BF#16 })
    (fun t => (t.ntMem, t.atMem, t.vaddr)) = some ([(0x3BF, 0xA1#8)], [], 0x23C0#16) := by decide -- V7
theorem test_wrdata_wraps_by_32 : after (exec (.wrdata 1#8) { State.reset with ctrl1 := 4#8, vaddr := 0xFFF0#16 })
    (fun t => (t.ntMem, t.atMem, t.vaddr)) = some ([], [], 0x0010#16) := by decide -- V6
theorem test_rdctrl1 : after (exec .rdctrl1 { State.reset with ctrl1 := 0x94#8 }) answerOf = some (some ⟨0#4, 0x94#32⟩) := by
  decide -- V11
theorem test_rdctrl2 : after (exec .rdctrl2 { State.reset with ctrl2 := 0x1E#8 }) answerOf = some (some ⟨0#4, 0x1E#32⟩) := by
  decide -- V11
theorem test_rdstatus : after (exec .rdstatus { State.reset with status := 0xC0#8, w := true, pend := true })
    (fun t => (answerOf t, t.status, t.w, t.pend)) = some (some ⟨0#4, 0xC0#32⟩, 0x40#8, false, true) := by decide -- V9
theorem test_rdoamaddr : after (exec .rdoamaddr { State.reset with oamAddr := 0x40#8 }) answerOf =
    some (some ⟨0#4, 0x40#32⟩) := by decide -- V10
theorem test_rdoamdata : after (exec .rdoamdata { State.reset with oamData := 0x77#8 }) answerOf =
    some (some ⟨0#4, 0x77#32⟩) := by decide -- V10
theorem test_rdscroll : after (exec .rdscroll { State.reset with scrollX := 0x30#8, scrollY := 0x20#8, w := true })
    (fun t => (answerOf t, t.w)) = some (some ⟨0#4, 0x3020#32⟩, true) := by decide -- V1
theorem test_rdaddr : after (exec .rdaddr { State.reset with vaddr := 0xFFAB#16 }) answerOf =
    some (some ⟨0#4, 0xFFAB#32⟩) := by decide -- V4
theorem test_enq_unbacked_address : after (exec (.enq 0x3F00#16 0x0F#8) due) (fun t => (answerOf t, t.queue)) =
    some (some ⟨0#4, 0#32⟩, [⟨0x2000#16, 0x24#8⟩, ⟨0x3F00#16, 0x0F#8⟩]) := by decide -- V22
theorem test_enq_full : after (exec (.enq 0x2002#16 3#8) fullTick) (fun t => (answerOf t, t.queue.length, logOf t)) =
    some (some ⟨3#4, 0#32⟩, 64, 4#8, 3#4, .waitingForSync) := by decide -- V23, program D step 10
theorem test_rdqlen : after (exec .rdqlen fullTick) answerOf = some (some ⟨0#4, 0x40#32⟩) := by decide -- V23
theorem test_setnctrl1 : after (exec (.setnctrl1 0x84#8) State.reset) (fun t => (t.nextCtrl1, t.ctrl1)) =
    some (0x84#8, 0#8) := by decide -- V30 step 2
theorem test_setnctrl2 : after (exec (.setnctrl2 0x1E#8) State.reset) (fun t => (t.nextCtrl2, t.ctrl2)) =
    some (0x1E#8, 0#8) := by decide -- V30 step 3
theorem test_setnscroll : after (exec (.setnscroll 9#8 8#8) State.reset) (fun t => (t.nextScrollX, t.nextScrollY, t.scrollX)) =
    some (9#8, 8#8, 0#8) := by decide -- V30 step 4
theorem test_setscrdis : after (exec (.setscrdis 0xFE#8) { State.reset with scrdis := true }) State.scrdis = some false := by
  decide -- R94: d[0] only
theorem test_cbret_screen_disabled : after (exec (.cbret 0#8)
    { tick with scrdis := true, nextCtrl1 := 0x84#8, nextCtrl2 := 0x1E#8, nextScrollX := 9#8, nextScrollY := 8#8 })
    (fun t => (answerOf t, t.ctrl1, t.ctrl2, t.scrollX, t.scrollY, t.fsc)) =
    some (some ⟨0#4, 0#32⟩, 0x84#8, 0#8, 0#8, 0#8, .waitingForSync) := by decide -- V30 step 11
theorem test_cbret_failure : after (exec (.cbret 1#8) { tick with nextCtrl1 := 0x84#8 })
    (fun t => (answerOf t, t.ctrl1, logOf t)) = some (some ⟨4#4, 0#32⟩, 0#8, 8#8, 4#4, .waitingForSync) := by
  decide -- V30 step 14
theorem test_rderr : after (exec .rderr { State.reset with err := 5#8, lastErr := 1#4 }) answerOf =
    some (some ⟨0#4, 0x105#32⟩) := by decide -- program D step 17
theorem test_rdfsc : after (exec .rdfsc { State.reset with fsc := .stopped, shutReq := true, pend := true }) answerOf =
    some (some ⟨0#4, 0x0E#32⟩) := by decide -- program D step 31
theorem test_sprset : after (exec (.sprset 1#8 0x10#8 0x20#8 0x30#8 1#8) State.reset)
    (fun t => (answerOf t, t.sprByte 1 .x, t.sprByte 1 .y, t.sprByte 1 .tile, t.sprByte 1 .attr)) =
    some (some ⟨0#4, 0#32⟩, 0x10#8, 0x20#8, 0x30#8, 1#8) := by decide -- V42
theorem test_sprset_out_of_range : after (exec (.sprset 64#8 0#8 0#8 0#8 0#8) { tick with err := 5#8 })
    (fun t => (answerOf t, t.sprMem, logOf t)) = some (some ⟨2#4, 0#32⟩, [], 7#8, 2#4, .waitingForSync) := by
  decide -- program D step 24
theorem test_sprclr : after (exec .sprclr { State.reset with
      cfg := { Config.default with nsprites := 3 }, sprMem := [(0, 5#8), (1, 6#8), (4, 1#8), (5, 2#8), (6, 3#8)] })
    (fun t => (t.sprByte 0 .y, t.sprByte 1 .x, t.sprByte 1 .y, t.sprByte 1 .tile, t.sprByte 2 .y)) =
    some (6#8, 1#8, 0xF8#8, 3#8, 0xF8#8) := by decide -- V40, with three slots
theorem test_sprget : after (exec (.sprget 1#8) { State.reset with
      sprMem := [(4, 0x10#8), (5, 0x20#8), (6, 0x30#8), (7, 1#8)] }) answerOf = some (some ⟨0#4, 0x10203001#32⟩) := by
  decide -- V42
theorem test_sprget_out_of_range : after (exec (.sprget 64#8) State.reset) (fun t => (answerOf t, logOf t)) =
    some (some ⟨2#4, 0#32⟩, 2#8, 2#4, .waitingForSync) := by decide -- V41
theorem test_reinit : after (exec .reinit { tick with ctrl1 := 0x80#8, scrdis := true, pend := true, nextCtrl2 := 0x1E#8 })
    (fun t => (answerOf t, t.ctrl1, t.scrdis, t.pend, t.nextCtrl2, t.fsc)) =
    some (some ⟨0#4, 0#32⟩, 0#8, false, false, 0#8, .waitingForSync) := by decide -- V33

theorem test_vblank_masked : after (step (feed State.reset [.video .vblank])) (fun t => (t.status, t.pend)) =
    some (0x80#8, false) := by decide -- V31
theorem test_vblank_gate_open : after (step (feed { State.reset with ctrl1 := 0x80#8 } [.video .vblank]))
    (fun t => (t.status, t.pend)) = some (0x80#8, true) := by decide -- V30 step 6
theorem test_tick_start : after (step (feed { due with queue := [⟨0x2000#16, 0x24#8⟩, ⟨0x2001#16, 0x24#8⟩] }
    [.fsc .tickStart])) (fun t => (t.ntMem, t.queue, t.vaddr, t.pend, t.fsc)) =
    some ([(0, 0x24#8), (1, 0x24#8)], [], 0x2002#16, false, .runningTick) := by decide -- S1
theorem test_tick_start_refused_flush : after (step (feed dueRendering [.fsc .tickStart]))
    (fun t => (t.queue.length, t.pend, logOf t)) = some (1, false, 1#8, 1#4, .waitingForSync) := by
  decide -- program D step 16
theorem test_shutdown_and_stop : after (step (feed { State.reset with shutReq := true, pend := true } [.fsc .stop]))
    (fun t => (t.fsc, t.pend)) = some (.stopped, true) := by decide -- program D step 30
theorem test_illegal_word : after (step (feed tick [word 0x7F0000000001#48])) (fun t => (answerOf t, t.fsc)) =
    some (some ⟨15#4, 0#32⟩, .runningTick) := by decide -- V50
theorem test_with_fetch_word : after (step (State.reset.withFetchWord 48 0x000000000080)) (fun t => (t.ctrl1, t.inputs)) =
    some (0x80#8, []) := by decide -- program D step 3

/-! ## States that meet the hypotheses of the statements -/

/-- A next state with a given part, from the part alone. -/
theorem exists_next {α : Type} {o : Host.Outcome State Fault Refusal} {f : State → α} {v : α} (h : after o f = some v) :
    ∃ t, o = .next t ∧ f t = v := by
  cases o with
  | next t => exact ⟨t, rfl, by simpa [after] using h⟩
  | fault r => simp [after] at h
  | refused r => simp [after] at h

/-- The defaults are admitted, so an input fed to a state with them is faced. -/
theorem faces {s : State} {a : Action} {rest : List Action} (h : s.cfg.Valid) : (feed s (a :: rest)).Facing a rest := ⟨h, rfl⟩

theorem witness_EncodeOfDecodeIsIdentity :
    decode 0x400110203001#48 = .ok (.sprset 1#8 0x10#8 0x20#8 0x30#8 0x01#8) := by decide
theorem witness_WordIsCommandIffMaskedWordIsMatch :
    (∃ r ∈ opcodeMap, 0x42FF00000000#48 &&& r.format.mask = r.op.setWidth 48 <<< 40) ∧
    ∃ r ∈ opcodeMap, 0x42FF00000001#48 &&& r.format.mask ≠ r.op.setWidth 48 <<< 40 := by decide
theorem witness_IllegalWordHasNoEffect_opcode : (feed tick [word 0x020000000000#48]).Facing (.host 0x020000000000#48) [] ∧
    ∀ r ∈ opcodeMap, r.op ≠ (0x020000000000#48).extractLsb' 40 8 := ⟨faces (by decide), by decide⟩
theorem witness_IllegalWordHasNoEffect_bit : (feed tick [word 0x420100000001#48]).Facing (.host 0x420100000001#48) [] ∧
    ∃ r ∈ opcodeMap, r.op = (0x420100000001#48).extractLsb' 40 8 ∧
      0x420100000001#48 &&& r.format.mask &&& 0x00FFFFFFFFFF#48 ≠ 0#48 := ⟨faces (by decide), by decide⟩

/-- The opcodes R101 lists. -/
def unused (op : Nat) : Bool :=
  decide (op = 0x02 ∨ op = 0x17 ∨ (0x08 ≤ op ∧ op ≤ 0x0F) ∨ (0x18 ≤ op ∧ op ≤ 0x1F) ∨ (0x22 ≤ op ∧ op ≤ 0x2F) ∨
    (0x37 ≤ op ∧ op ≤ 0x3F) ∨ (0x43 ≤ op ∧ op ≤ 0x7E) ∨ 0x80 ≤ op)

/-- Both ends of each range of R101, and the opcode of no row among them. -/
theorem witness_ReservedOpcodesAreRejected :
    [0x02, 0x17, 0x08, 0x0F, 0x18, 0x1F, 0x22, 0x2F, 0x37, 0x3F, 0x43, 0x7E, 0x80, 0xFF].all unused = true ∧
    opcodeMap.all (fun r => !unused r.op.toNat) = true := by decide
theorem witness_StepRunsTheDecodedCommand :
    (feed tick [word 0x7F0000000000#48]).Facing (.host 0x7F0000000000#48) [] ∧ decode 0x7F0000000000#48 = .ok .reinit ∧
    tick.cfg.Valid := ⟨faces (by decide), by decide, by decide⟩
theorem witness_BadParametersBuildNoMachine :
    ({ State.reset with cfg := { Config.default with qcap := 0 } } : State).cfg.qcap = 0 ∧
    step { State.reset with cfg := { Config.default with qcap := 0 } } = .refused .configurationError := ⟨rfl, rfl⟩
theorem witness_RasterFlagEventsWriteOnlyTheirBit :
    (feed tick [.video (.spr0 true)]).Facing (.video (.spr0 true)) [] ∧
    (feed tick [.video (.ovf false)]).Facing (.video (.ovf false)) [] := ⟨faces (by decide), faces (by decide)⟩

/-- The gate of R190 is open. -/
def armed : State := { State.reset with ctrl1 := 0x80#8 }

theorem witness_VblankIsTheOnlyInterrupt_events :
    (feed State.reset [.video .vblank]).Facing (.video .vblank) [] ∧ State.reset.ctrl1.getLsbD 7 = false ∧
    (feed armed [.video .vblank, .video .vblank]).Facing (.video .vblank) [.video .vblank] ∧
    ∃ t, step (feed armed [.video .vblank, .video .vblank]) = .next t ∧ t.pend = true :=
  ⟨faces (by decide), by decide, faces (by decide), exists_next (f := State.pend) (by decide)⟩
theorem witness_VblankIsTheOnlyInterrupt_set : (feed armed [.video .vblank]).pend = false ∧
    ∃ t, step (feed armed [.video .vblank]) = .next t ∧ t.pend = true := ⟨rfl, exists_next (f := State.pend) (by decide)⟩
theorem witness_VblankIsTheOnlyInterrupt_cleared : due.pend = true ∧ due.fsc = .waitingForSync ∧ due.shutReq = false ∧
    (∃ t, step (feed due [.supervisor .reset]) = .next t ∧ t.pend = false) ∧
    (∃ t, step due = .next t ∧ t.pend = false) ∧ ∃ t, step (feed due [.fsc .tickStart]) = .next t ∧ t.pend = false :=
  ⟨rfl, rfl, rfl, exists_next (f := State.pend) (by decide), exists_next (f := State.pend) (by decide),
    exists_next (f := State.pend) (by decide)⟩

/-- A shutdown has been asked for. -/
def shutting : State := { State.reset with shutReq := true, pend := true }

theorem witness_ShutdownRequestIsSticky :
    (feed tick [.supervisor .shutdown]).Facing (.supervisor .shutdown) [] ∧
    (∃ t, step (feed tick [.supervisor .shutdown]) = .next t ∧ t.shutReq = true) ∧
    (∃ t, step (feed shutting [word 0x7F0000000000#48]) = .next t ∧ t.shutReq = false) ∧
    ∃ t, step (feed tick [word 0x340000000000#48]) = .next t ∧ t.fsc = .waitingForSync :=
  ⟨faces (by decide), exists_next (f := State.shutReq) (by decide), exists_next (f := State.shutReq) (by decide),
    exists_next (f := State.fsc) (by decide)⟩
theorem witness_ResetGivesTheResetState : (feed tick [.supervisor .reset]).Facing (.supervisor .reset) [] := faces (by decide)
theorem witness_FlushAppliesEveryEntryInOrder : due.cfg.Valid ∧ due.queue = [] ++ [⟨0x2000#16, 0x24#8⟩] ∧
    State.reset.queue = [] := ⟨by decide, rfl, rfl⟩

/-- TickStart is faced and enabled. -/
def facesTickStart (s : State) : Prop :=
  (feed s [.fsc .tickStart]).Facing (.fsc .tickStart) [] ∧ s.fsc = .waitingForSync ∧ s.pend = true ∧ s.shutReq = false

theorem witness_TickStartFlushesAndCallsBack :
    (facesTickStart { due with queue := [] } ∧ ({ due with queue := [] } : State).queue = []) ∧
    (facesTickStart { due with cfg := { Config.default with flushPolicy := .always } }) ∧
    (facesTickStart due ∧ due.ctrl2 &&& due.cfg.rendMask = 0#8) ∧
    (facesTickStart { dueRendering with status := 0x80#8 } ∧ (0x80#8 : Byte).getLsbD 7 = true) := by
  refine ⟨⟨⟨faces (by decide), rfl, rfl, rfl⟩, rfl⟩, ⟨faces (by decide), rfl, rfl, rfl⟩,
    ⟨⟨faces (by decide), rfl, rfl, rfl⟩, by decide⟩, ⟨faces (by decide), rfl, rfl, rfl⟩, by decide⟩
theorem witness_IllegalFlushAbandonsTheTick : facesTickStart dueRendering ∧ dueRendering.queue ≠ [] ∧
    dueRendering.cfg.flushPolicy ≠ .always ∧ dueRendering.ctrl2 &&& dueRendering.cfg.rendMask ≠ 0#8 ∧
    dueRendering.status.getLsbD 7 = false ∧ facesTickStart { dueRendering with queue := [] } ∧
    (facesTickStart due ∧ due.queue ≠ [] ∧ due.ctrl2 &&& due.cfg.rendMask = 0#8) :=
  ⟨⟨faces (by decide), rfl, rfl, rfl⟩, by decide, by decide, by decide, by decide, ⟨faces (by decide), rfl, rfl, rfl⟩,
    ⟨faces (by decide), rfl, rfl, rfl⟩, by decide, by decide⟩
theorem witness_FscStepsExistOnlyWhenEnabled : facesTickStart due ∧
    ((feed shutting [.fsc .tickStart]).Facing (.fsc .tickStart) [] ∧ shutting.shutReq = true) ∧
    ((feed shutting [.fsc .stop]).Facing (.fsc .stop) [] ∧ shutting.fsc = .waitingForSync) ∧
    ((feed { tick with shutReq := true } [.fsc .stop]).Facing (.fsc .stop) [] ∧ tick.fsc ≠ .waitingForSync) :=
  ⟨⟨faces (by decide), rfl, rfl, rfl⟩, ⟨faces (by decide), rfl⟩, ⟨faces (by decide), rfl⟩, ⟨faces (by decide), by decide⟩⟩
theorem witness_FscMovesOnlyAlongItsTable :
    (∃ t, step due = .next t ∧ t.fsc = .runningTick) ∧
    (∃ t, step (feed tick [word 0x340000000000#48]) = .next t ∧ t.fsc = .waitingForSync) ∧
    (∃ t, step (feed fullTick [word 0x200000200203#48]) = .next t ∧ t.fsc = .waitingForSync) ∧
    (∃ t, step (feed tick [word 0x404000000000#48]) = .next t ∧ t.fsc = .waitingForSync) ∧
    (∃ t, step (feed tick [word 0x424000000000#48]) = .next t ∧ t.fsc = .waitingForSync) ∧
    (∃ t, step shutting = .next t ∧ t.fsc = .stopped) ∧
    ∃ t, step (feed { shutting with fsc := .stopped } [.supervisor .reset]) = .next t ∧ t.fsc = .waitingForSync :=
  ⟨exists_next (f := State.fsc) (by decide), exists_next (f := State.fsc) (by decide), exists_next (f := State.fsc) (by decide),
    exists_next (f := State.fsc) (by decide), exists_next (f := State.fsc) (by decide),
    exists_next (f := State.fsc) (by decide), exists_next (f := State.fsc) (by decide)⟩
theorem witness_QuiescentStatesStopByName :
    (State.reset.cfg.Valid ∧ State.reset.inputs = []) ∧
    (State.reset.fsc = .waitingForSync ∧ State.reset.shutReq = false ∧ State.reset.pend = false) ∧
    (shutting.fsc = .waitingForSync ∧ shutting.shutReq = true ∧ shutting.inputs = []) ∧
    (due.fsc = .waitingForSync ∧ due.shutReq = false ∧ due.pend = true ∧ due.inputs = []) ∧
    (tick.fsc = .runningTick ∧ tick.inputs = []) ∧ ({ tick with fsc := .stopped } : State).inputs = [] := by decide
theorem witness_toggle_states : State.reset.w = false ∧ ({ State.reset with w := true } : State).w = true := ⟨rfl, rfl⟩
theorem witness_DataPortStoresThenIncrements : State.reset.cfg.Valid ∧ State.reset.backed 0x2400#16 = false ∧
    State.reset.backed 0x23FF#16 = true ∧ State.reset.backed 0x2000#16 = true ∧ State.reset.backed 0x1FFF#16 = false := by decide
theorem witness_SnapshotReadsOnlyBackedAddresses : State.reset.cfg.Valid ∧
    (State.reset.inNt 0x2000#16 = true ∧ State.reset.inNt 0x23BF#16 = true ∧ State.reset.inNt 0x23C0#16 = false) ∧
    (State.reset.inAt 0x23C0#16 = true ∧ State.reset.inAt 0x23FF#16 = true ∧ State.reset.inAt 0x23BF#16 = false) ∧
    (State.reset.inNt 0x2400#16 = false ∧ State.reset.inAt 0x2400#16 = false) := by decide
theorem witness_EnqueueAppendsOrReportsOverflow : fullTick.queue.length = fullTick.cfg.qcap ∧
    (fullTick.queue.drop 1).length ≠ fullTick.cfg.qcap ∧ due.queue.length ≠ due.cfg.qcap := by decide
theorem witness_ReadOutsPackTheirFields : State.reset.fsc = .waitingForSync ∧ tick.fsc = .runningTick ∧
    ({ tick with fsc := .stopped } : State).fsc = .stopped := ⟨rfl, rfl, rfl⟩
theorem witness_CallbackReturnWritesBack : State.reset.fsc ≠ .runningTick ∧ tick.fsc = .runningTick ∧
    (0xFF#8 : Byte).getLsbD 0 = true ∧ (0xFE#8 : Byte).getLsbD 0 = false ∧ tick.scrdis = false ∧
    ({ tick with scrdis := true } : State).scrdis = true := by decide
theorem witness_sprite_indices : (63#8 : Byte).toNat < tick.cfg.nsprites ∧ tick.cfg.nsprites ≤ (64#8 : Byte).toNat ∧
    (255#8 : Byte).toNat < ({ Config.default with nsprites := 256 } : Config).nsprites := by decide
theorem witness_SpriteClearHidesAllButSlotZero : ∃ t u, exec .sprclr State.reset = .next t ∧ exec .sprclr t = .next u :=
  ⟨_, _, rfl, rfl⟩
theorem witness_ViolationsArePrecise :
    (∃ t, exec (.sprget 64#8) tick = .next t ∧ answerOf t = some ⟨2#4, 0#32⟩) ∧
    (∃ t, exec (.enq 0#16 0#8) fullTick = .next t ∧ answerOf t = some ⟨3#4, 0#32⟩) ∧
    (∃ t, exec (.cbret 1#8) tick = .next t ∧ answerOf t = some ⟨4#4, 0#32⟩) ∧
    facesTickStart dueRendering ∧ ∃ t, step (feed dueRendering [.fsc .tickStart]) = .next t ∧ t.fsc = .waitingForSync :=
  ⟨exists_next (f := answerOf) (by decide), exists_next (f := answerOf) (by decide), exists_next (f := answerOf) (by decide),
    ⟨faces (by decide), rfl, rfl, rfl⟩, exists_next (f := State.fsc) (by decide)⟩
theorem witness_InvariantKeptByEveryStep : State.reset.Inv ∧ due.Inv ∧ ∃ t, step due = .next t ∧ t.ntMem = [(0, 0x24#8)] :=
  ⟨⟨by decide, by decide, by decide, by decide, by decide, by decide, by decide, by decide⟩,
    ⟨by decide, by decide, by decide, by decide, by decide, by decide, by decide, by decide⟩,
    exists_next (f := State.ntMem) (by decide)⟩
theorem witness_InvariantHoldsAfterReset : Config.default.Valid ∧ ({ Config.default with nsprites := 1, qcap := 1 } : Config).Valid :=
  ⟨by decide, by decide⟩

/-- A violation has been logged. -/
def logged : State := { State.reset with err := 1#8, lastErr := 1#4 }

theorem witness_ErrorLogStaysConsistentAndSticky : State.reset.LogAgrees ∧ logged.LogAgrees ∧
    (∃ t, step (feed logged [word 0x424000000000#48]) = .next t ∧ t.err = 3#8) ∧
    logged.err.getLsbD 0 = true ∧ ∃ t, step (feed logged [.supervisor .reset]) = .next t ∧ t.err.getLsbD 0 = false :=
  ⟨.inl ⟨rfl, rfl⟩, .inr ⟨.flushWhileRendering, rfl, by decide⟩, exists_next (f := State.err) (by decide), by decide,
    exists_next (f := fun t => t.err.getLsbD 0) (by decide)⟩

/-- Three port writes with a vblank and an illegal word among them. -/
def mixed : List Action := [issue (.wrscroll 1#8), .video .vblank, issue (.wraddr 2#8), word 0x020000000000#48, issue (.wraddr 0x21#8)]

theorem witness_ToggleIsParityOfPortWrites : (feed State.reset mixed).w = false ∧ (feed State.reset mixed).inputs = mixed ++ [] ∧
    (∀ a ∈ mixed, a.clearsToggle = false) ∧ flipCount mixed = 3 ∧
    ∃ t, Sys2Proof.core.run mixed.length (feed State.reset mixed) = .next t ∧ t.w = true :=
  ⟨rfl, rfl, by decide, by decide, exists_next (f := State.w) (by decide)⟩
theorem witness_ToggleWrittenOnlyByItsFour :
    (∃ t, step (feed State.reset [issue (.wrscroll 5#8)]) = .next t ∧ t.w = true) ∧
    (∃ t, step (feed State.reset [issue (.wraddr 5#8)]) = .next t ∧ t.w = true) ∧
    (∃ t, step (feed { State.reset with w := true } [issue .rdstatus]) = .next t ∧ t.w = false) ∧
    ∃ t, step (feed { State.reset with w := true } [.supervisor .reset]) = .next t ∧ t.w = false :=
  ⟨exists_next (f := State.w) (by decide), exists_next (f := State.w) (by decide), exists_next (f := State.w) (by decide),
    exists_next (f := State.w) (by decide)⟩
theorem witness_RunsOfCommandsAndEventsComplete : (feed State.reset mixed).cfg.Valid ∧
    (feed State.reset mixed).inputs = mixed ++ [] ∧ ∀ a ∈ mixed, ∀ k, a ≠ .fsc k :=
  ⟨by decide, rfl, by intro a h k hk; subst hk; revert h; cases k <;> decide⟩
theorem witness_BothPortsShareOneToggle : State.reset.cfg.Valid ∧ State.reset.w = false ∧
    (feed State.reset [issue (.wrscroll 1#8), issue (.wraddr 2#8)]).inputs = [issue (.wrscroll 1#8), issue (.wraddr 2#8)] ∧
    (feed State.reset [issue (.wraddr 1#8), issue (.wrscroll 2#8)]).inputs = [issue (.wraddr 1#8), issue (.wrscroll 2#8)] :=
  ⟨by decide, rfl, rfl, rfl⟩
theorem witness_ScrollPairIsTheLastTwoWrites : State.reset.cfg.Valid ∧ State.reset.w = false ∧
    (feed State.reset (scrollWrites [(1#8, 2#8), (3#8, 4#8)])).inputs = scrollWrites ([(1#8, 2#8)] ++ [(3#8, 4#8)]) ++ [] :=
  ⟨by decide, rfl, rfl⟩
theorem witness_StatusReadAbandonsTheHalfPair : State.reset.cfg.Valid ∧ State.reset.w = false ∧
    (feed State.reset [issue (.wrscroll 5#8), issue .rdstatus, issue (.wrscroll 7#8)]).inputs =
      [issue (.wrscroll 5#8), issue .rdstatus, issue (.wrscroll 7#8)] ∧
    (feed State.reset [issue (.wraddr 5#8), issue .rdstatus, issue (.wraddr 7#8)]).inputs =
      [issue (.wraddr 5#8), issue .rdstatus, issue (.wraddr 7#8)] := ⟨by decide, rfl, rfl, rfl⟩
theorem witness_PseudoWritesAreCorrectFromAnyToggle : State.reset.cfg.Valid ∧
    (feed { State.reset with w := true } (((Pseudo.setscroll 3#8 4#8).expand 0xF8#8).map issue)).inputs =
      ((Pseudo.setscroll 3#8 4#8).expand State.reset.cfg.offscreenY).map issue ++ [] ∧
    (feed { State.reset with w := true } (((Pseudo.setaddr 0x2400#16).expand 0xF8#8).map issue)).inputs =
      ((Pseudo.setaddr 0x2400#16).expand State.reset.cfg.offscreenY).map issue ++ [] := by decide
theorem witness_HostKeepsToItsRights : (Instr.rdstatus ≠ .reinit ∧
    ∃ t, exec .rdstatus { armed with status := 0xE0#8 } = .next t ∧ t.status = 0x60#8) ∧
    (Instr.enq 0#16 0#8 ≠ .reinit ∧ ∃ t, exec (.enq 0#16 0#8) due = .next t ∧ t.queue.length = 2) :=
  ⟨⟨by decide, exists_next (f := State.status) (by decide)⟩, by decide, exists_next (f := fun t => t.queue.length) (by decide)⟩
theorem witness_NoCommandRevealsTheToggle :
    (∃ t, exec (.wrscroll 5#8) State.reset = .next t ∧ t.w = true) ∧
    ∃ t, exec (.wrscroll 5#8) { State.reset with w := true } = .next t ∧ t.w = false :=
  ⟨exists_next (f := State.w) (by decide), exists_next (f := State.w) (by decide)⟩

/-- A nametable byte, a sprite field and VADDR have been written. -/
def painted : State := { State.reset with ntMem := [(0, 1#8)], sprMem := [(5, 1#8)], vaddr := 0x2000#16 }

theorem witness_VramChangesOnlyThroughTheDataPort : painted.vRead 0x2000#16 = some 1#8 ∧
    (∃ t, step (feed painted [issue (.wrdata 2#8)]) = .next t ∧ t.vRead 0x2000#16 = some 2#8) ∧
    ∃ t, step { painted with pend := true, queue := [⟨0x2000#16, 3#8⟩] } = .next t ∧ t.vRead 0x2000#16 = some 3#8 :=
  ⟨by decide, exists_next (f := fun t => t.vRead 0x2000#16) (by decide), exists_next (f := fun t => t.vRead 0x2000#16) (by decide)⟩
theorem witness_SpriteFieldsChangeOnlyByTheirCommands : painted.sprByte 1 .y = 1#8 ∧
    (∃ t, step (feed painted [issue (.sprset 1#8 0#8 2#8 0#8 0#8)]) = .next t ∧ t.sprByte 1 .y = 2#8) ∧
    ∃ t, step (feed { painted with cfg := { Config.default with nsprites := 2 } } [issue .sprclr]) = .next t ∧ t.sprByte 1 .y = 0xF8#8 :=
  ⟨by decide, exists_next (f := fun t => t.sprByte 1 .y) (by decide), exists_next (f := fun t => t.sprByte 1 .y) (by decide)⟩
theorem witness_QueueIsFirstInFirstOut :
    (∃ t, step (feed due [issue (.enq 0x2001#16 1#8)]) = .next t ∧ t.queue = [⟨0x2000#16, 0x24#8⟩, ⟨0x2001#16, 1#8⟩]) ∧
    (∃ t, step due = .next t ∧ t.queue = []) ∧ ∃ t, step (feed due [.supervisor .reset]) = .next t ∧ t.queue = [] :=
  ⟨exists_next (f := State.queue) (by decide), exists_next (f := State.queue) (by decide),
    exists_next (f := State.queue) (by decide)⟩

/-- A tick with every shadow register set. -/
def shadowed : State := { tick with nextCtrl1 := 0x84#8, nextCtrl2 := 0x1E#8, nextScrollX := 9#8, nextScrollY := 8#8 }

/-- The next transition of a state with some inputs is a reset. -/
theorem no_reset (s : State) (a : Action) (rest : List Action) (h : a.resets = false) : ¬ (feed s (a :: rest)).FacingReset := by
  rintro ⟨b, r, hi, hb⟩
  simp only [feed, List.cons.injEq] at hi
  rw [hi.1] at h
  rw [h] at hb
  cases hb

theorem witness_RegistersHaveOnlyTheirWriters_return : ¬ (feed shadowed [issue (.cbret 0#8)]).FacingReset ∧
    ∃ t, step (feed shadowed [issue (.cbret 0#8)]) = .next t ∧
      (t.ctrl1, t.ctrl2, t.scrollX, t.scrollY) = (0x84#8, 0x1E#8, 9#8, 8#8) :=
  ⟨no_reset _ _ _ (by decide), exists_next (f := fun t => (t.ctrl1, t.ctrl2, t.scrollX, t.scrollY)) (by decide)⟩
theorem witness_RegistersHaveOnlyTheirWriters_ports :
    (∃ t, step (feed State.reset [issue (.wroamaddr 1#8)]) = .next t ∧ t.oamAddr = 1#8) ∧
    (∃ t, step (feed State.reset [issue (.wroamdata 1#8)]) = .next t ∧ t.oamData = 1#8) ∧
    (∃ t, step (feed State.reset [issue (.wrdata 1#8)]) = .next t ∧ t.vaddr = 1#16) ∧
    ∃ t, step due = .next t ∧ t.vaddr = 0x2001#16 :=
  ⟨exists_next (f := State.oamAddr) (by decide), exists_next (f := State.oamData) (by decide),
    exists_next (f := State.vaddr) (by decide), exists_next (f := State.vaddr) (by decide)⟩
theorem witness_RegistersHaveOnlyTheirWriters_shadows :
    (∃ t, step (feed State.reset [issue (.setnctrl1 1#8)]) = .next t ∧ t.nextCtrl1 = 1#8) ∧
    (∃ t, step (feed State.reset [issue (.setnctrl2 1#8)]) = .next t ∧ t.nextCtrl2 = 1#8) ∧
    (∃ t, step (feed State.reset [issue (.setnscroll 1#8 2#8)]) = .next t ∧ (t.nextScrollX, t.nextScrollY) = (1#8, 2#8)) ∧
    ∃ t, step (feed State.reset [issue (.setscrdis 1#8)]) = .next t ∧ t.scrdis = true :=
  ⟨exists_next (f := State.nextCtrl1) (by decide), exists_next (f := State.nextCtrl2) (by decide),
    exists_next (f := fun t => (t.nextScrollX, t.nextScrollY)) (by decide), exists_next (f := State.scrdis) (by decide)⟩
theorem witness_ReadsHaveNoSideEffect : (∃ t, exec (.sprget 63#8) painted = .next t) ∧ (63#8 : Byte).toNat < painted.cfg.nsprites ∧
    ∃ t u, exec .rdstatus { painted with status := 0xE0#8 } = .next t ∧ exec .rdstatus t = .next u :=
  ⟨⟨_, rfl⟩, by decide, _, _, rfl, rfl⟩
theorem witness_BootSequenceStartsTicks : Config.default.Valid ∧ (0x80#8 : Byte).getLsbD Config.default.nmiBit = true ∧
    (0x7F#8 : Byte).getLsbD Config.default.nmiBit = false ∧ Config.default.nmiGate = true := by decide
theorem witness_CallbackEndsAtItsFirstViolation : fullTick.cfg.Valid ∧ fullTick.fsc = .runningTick ∧
    fullTick.queue.length = fullTick.cfg.qcap ∧ fullTick.cfg.nsprites ≤ (64#8 : Byte).toNat ∧
    (feed fullTick [issue (.enq 0#16 0#8), issue (.cbret 0#8)]).inputs = [issue (.enq 0#16 0#8), issue (.cbret 0#8)] ∧
    (feed fullTick [issue (.sprset 64#8 0#8 0#8 0#8 0#8), issue (.cbret 0#8)]).inputs =
      [issue (.sprset 64#8 0#8 0#8 0#8 0#8), issue (.cbret 0#8)] ∧
    (feed fullTick [issue (.sprget 64#8), issue (.cbret 1#8)]).inputs = [issue (.sprget 64#8), issue (.cbret 1#8)] :=
  ⟨by decide, rfl, by decide, by decide, rfl, rfl, rfl⟩

/-- A callback that raises nothing and does not return: room in the queue, the last slot, an event, an illegal word. -/
def callback : List Action := [issue (.enq 0x2000#16 7#8), issue (.sprset 63#8 1#8 2#8 3#8 4#8), .video .vblank,
  issue (.sprget 63#8), word 0x020000000000#48]

/-- A CBRET. -/
def isCbret : Instr → Bool
  | .cbret _ => true
  | _ => false

theorem not_cbret {a : Action} (h : a.command.any isCbret = false) (d : Byte) : a.command ≠ some (.cbret d) := by
  intro e; simp [e, isCbret] at h

theorem witness_TickHangsWithoutReturn : tick.fsc = .runningTick ∧ (feed tick callback).inputs = callback ++ [] ∧
    (∀ a ∈ callback, a.resets = false ∧ ∀ d, a.command ≠ some (.cbret d)) ∧
    ∃ t rs, Sys2Proof.core.run callback.length (feed tick callback) = .next t ∧ t.resps = rs ++ (feed tick callback).resps ∧
      ∀ r ∈ rs, r.code ≠ 2#4 ∧ r.code ≠ 3#4 ∧ r.code ≠ 4#4 := by
  refine ⟨rfl, rfl, fun a h => ?_, ?_⟩
  · have := (by decide : ∀ a ∈ callback, a.resets = false ∧ a.command.any isCbret = false) a h
    exact ⟨this.1, not_cbret this.2⟩
  · obtain ⟨t, h, hr⟩ := exists_next (o := Sys2Proof.core.run callback.length (feed tick callback)) (f := State.resps)
      (v := [⟨15#4, 0#32⟩, ⟨0#4, 0x01020304#32⟩, ⟨0#4, 0#32⟩, ⟨0#4, 0#32⟩]) (by decide)
    exact ⟨t, t.resps, h, (List.append_nil _).symm, hr ▸ (by decide)⟩

/-- Commands, an illegal word and a reset, without a vblank; the NMI enable is set on the way. -/
def quiet : List Action := [issue (.wrctrl1 0xFF#8), word 0x020000000000#48, issue .sprclr, .supervisor .reset, .video (.spr0 true)]

/-- Vblanks with the NMI enable clear throughout. -/
def masked : List Action := [.video .vblank, issue (.wrctrl1 0x7F#8), .video .vblank, issue (.cbret 0#8), .video .vblank]

/-- A WRCTRL1 that sets the default `NMI_BIT`. -/
def setsNmi : Instr → Bool
  | .wrctrl1 d => d.getLsbD 7
  | _ => false

theorem keeps_nmi {a : Action} (h : a.command.any setsNmi = false) (d : Byte) (e : a.command = some (.wrctrl1 d)) :
    d.getLsbD 7 = false := by
  rw [e] at h; exact h

/-- No action but a shutdown or a step of the FSC. -/
def noSignal : Action → Bool
  | .supervisor .shutdown | .fsc _ => false
  | _ => true

theorem not_signal {a : Action} (h : noSignal a = true) : a ≠ .supervisor .shutdown ∧ ∀ k, a ≠ .fsc k := by
  constructor
  · rintro rfl; cases h
  · rintro k rfl; cases h

theorem witness_WaitForSyncHasNoTimeout_quiet : (feed State.reset quiet).cfg.Valid ∧ (feed State.reset quiet).awaitsSync = true ∧
    (feed State.reset quiet).inputs = quiet ++ [] ∧ (∀ a ∈ quiet, a ≠ .supervisor .shutdown ∧ ∀ k, a ≠ .fsc k) ∧
    ∀ a ∈ quiet, a ≠ .video .vblank :=
  ⟨by decide, by decide, rfl, fun a h => not_signal ((by decide : ∀ a ∈ quiet, noSignal a = true) a h), by decide⟩
theorem witness_WaitForSyncHasNoTimeout_masked : (feed State.reset masked).awaitsSync = true ∧
    State.reset.cfg.nmiGate = true ∧ State.reset.ctrl1.getLsbD State.reset.cfg.nmiBit = false ∧
    (∀ a ∈ masked, a ≠ .supervisor .shutdown ∧ ∀ k, a ≠ .fsc k) ∧
    ∀ a ∈ masked, ∀ d, a.command = some (.wrctrl1 d) → d.getLsbD State.reset.cfg.nmiBit = false :=
  ⟨by decide, by decide, by decide, fun a h => not_signal ((by decide : ∀ a ∈ masked, noSignal a = true) a h),
    fun a h => keeps_nmi ((by decide : ∀ a ∈ masked, a.command.any setsNmi = false) a h)⟩
theorem witness_WaitForSyncHasNoTimeout_ends : armed.awaitsSync = true ∧ armed.ctrl1.getLsbD armed.cfg.nmiBit = true ∧
    (∃ t, step (feed armed [.video .vblank]) = .next t ∧ t.awaitsSync = false) ∧
    (∃ t, step (feed armed [.supervisor .shutdown]) = .next t ∧ t.awaitsSync = false) ∧
    ∃ t, step (feed State.reset [.video .vblank]) = .next t ∧ t.awaitsSync = true :=
  ⟨by decide, by decide, exists_next (f := State.awaitsSync) (by decide), exists_next (f := State.awaitsSync) (by decide),
    exists_next (f := State.awaitsSync) (by decide)⟩

end Sys2Proof.Tests
end

section
/-! The parameter record (R5): a step is refused as a ConfigurationError exactly for the records R5 excludes. No
transition of a machine that exists answers this refusal: a command answers a next state, and an FSC step that is not
enabled has a refusal of its own. -/

namespace Sys2Proof.Machine

/-- Every command has a next state, on both sides of each of its tests. -/
theorem exec_eq_next (i : Instr) (s : State) : ∃ t, exec i s = .next t := by
  have branch (p : Prop) [Decidable p] (a b : State) :
      ∃ t, (if p then .next a else .next b : Host.Outcome State Fault Refusal) = .next t :=
    ⟨_, (apply_ite Host.Outcome.next p a b).symm⟩
  cases i with
  | wrscroll d => exact branch ..
  | wraddr d => exact branch ..
  | enq addr d => exact branch ..
  | sprset idx x y tile attr => exact branch ..
  | sprget idx => exact branch ..
  | cbret d =>
    simp only [exec, execCbret]
    split
    · exact ⟨_, rfl⟩
    · exact branch ..
  | _ => exact ⟨_, rfl⟩

/-- A word the host issues has a next state, legal or not (R100). -/
theorem runCommand_eq_next (cmd : CmdWord) (s : State) : ∃ t, runCommand cmd s = .next t := by
  unfold runCommand
  split
  · exact exec_eq_next _ s
  · exact ⟨_, rfl⟩

theorem runFsc_ne_configurationError (k : FscStep) (s : State) : runFsc k s ≠ .refused .configurationError := by
  cases k with
  | tickStart => simp only [runFsc]; split <;> simp
  | stop => simp only [runFsc]; split <;> simp

theorem runAction_ne_configurationError (a : Action) (s : State) :
    runAction a s ≠ .refused .configurationError := by
  cases a with
  | host cmd =>
    obtain ⟨t, ht⟩ := runCommand_eq_next cmd s
    simp [runAction, ht]
  | video e => simp [runAction]
  | supervisor e => simp [runAction]
  | fsc k => exact runFsc_ne_configurationError k s

theorem idle_ne_configurationError (s : State) : idle s ≠ .refused .configurationError := by
  unfold idle
  split
  · simp
  · split <;> simp

theorem takeInput_ne_configurationError (s : State) : takeInput s ≠ .refused .configurationError := by
  unfold takeInput
  split
  · exact idle_ne_configurationError s
  · exact runAction_ne_configurationError _ _

theorem step_eq_configurationError_iff (s : State) : step s = .refused .configurationError ↔ ¬ s.cfg.Valid := by
  unfold step
  split
  · next hv => simp [hv, takeInput_ne_configurationError]
  · next hv => simp [hv]

/-- A record breaks R5 exactly when it breaks one of its constraints. -/
theorem not_valid_iff (c : Config) : ¬ c.Valid ↔
    (c.qcap = 0 ∨ c.nsprites = 0 ∨ 256 < c.nsprites ∨ c.offscreenY.toNat < 240 ∨ c.ntSize < 2 ∨
     c.atSize = 0 ∨ 0x10000 < c.ntBase.toNat + c.ntSize ∨ 0x10000 < c.atBase.toNat + c.atSize ∨
     (c.atBase.toNat < c.ntBase.toNat + c.ntSize ∧ c.ntBase.toNat < c.atBase.toNat + c.atSize) ∨
     c.incBit = c.nmiBit ∨ 0x10000 ≤ c.incLo ∨ 0x10000 ≤ c.incHi) := by
  simp only [Config.Valid, not_and_or, not_or, not_le, not_lt, Nat.lt_one_iff, ne_eq, not_not]

/-- Settles O10: the refusal is that of a record that is not valid (`step_eq_configurationError_iff`), and such a record
breaks one of the constraints listed (`not_valid_iff`). -/
theorem badParametersBuildNoMachine : Obligations.BadParametersBuildNoMachine := fun s =>
  (step_eq_configurationError_iff s).trans (not_valid_iff s.cfg)

end Sys2Proof.Machine
end

section
/-! What a host command can do, once: `CommandEffect` has one constructor for each way in which a command answers a next
state, guards included, and `exec_effect` says that there is no other. -/

namespace Sys2Proof

/-- The commands that only read. `SPRGET` is one of them where its slot exists. -/
def Instr.reads : Instr → Bool
  | .rdctrl1 | .rdctrl2 | .rdoamaddr | .rdoamdata | .rdscroll | .rdaddr | .rdqlen | .rderr | .rdfsc | .sprget _ => true
  | _ => false

/-- The writes of the scroll and the address port (R30). -/
def Instr.flips : Instr → Bool
  | .wrscroll _ | .wraddr _ => true
  | _ => false

/-- A command that only reads neither flips nor clears `W`. -/
theorem Instr.frame_of_reads {i : Instr} (h : i.reads = true) : i.flips = false ∧ i ≠ .rdstatus ∧ i ≠ .reinit := by
  cases i <;> simp_all [Instr.reads, Instr.flips]

end Sys2Proof

namespace Sys2Proof.Machine

/-- `CommandEffect s i t`: the command `i` takes `s` to `t`. -/
inductive CommandEffect (s : State) : Instr → State → Prop
  | read (i : Instr) (d : RespData) (hi : i.reads = true) : CommandEffect s i (s.respond 0#4 d)
  | rdstatus : CommandEffect s .rdstatus
      (({ s with status := writeFlag s.status vblankBit false, w := false } : State).respond 0#4 (byteData s.statusByte))
  | wrctrl1 (d : Byte) : CommandEffect s (.wrctrl1 d) (({ s with ctrl1 := d } : State).respond 0#4 0#32)
  | wrctrl2 (d : Byte) : CommandEffect s (.wrctrl2 d) (({ s with ctrl2 := d } : State).respond 0#4 0#32)
  | wroamaddr (d : Byte) : CommandEffect s (.wroamaddr d) (({ s with oamAddr := d } : State).respond 0#4 0#32)
  | wroamdata (d : Byte) : CommandEffect s (.wroamdata d) (({ s with oamData := d } : State).respond 0#4 0#32)
  | scrollX (d : Byte) (hw : s.w = false) : CommandEffect s (.wrscroll d)
      (({ s with scrollX := d, w := true } : State).respond 0#4 0#32)
  | scrollY (d : Byte) (hw : s.w = true) : CommandEffect s (.wrscroll d)
      (({ s with scrollY := d, w := false } : State).respond 0#4 0#32)
  | addrHigh (d : Byte) (hw : s.w = false) : CommandEffect s (.wraddr d)
      (({ s with vaddr := withHigh s.vaddr d, w := true } : State).respond 0#4 0#32)
  | addrLow (d : Byte) (hw : s.w = true) : CommandEffect s (.wraddr d)
      (({ s with vaddr := withLow s.vaddr d, w := false } : State).respond 0#4 0#32)
  | wrdata (d : Byte) : CommandEffect s (.wrdata d) ((s.dataPortWrite d).respond 0#4 0#32)
  | enq (a : Addr) (d : Byte) (hq : s.queue.length ≠ s.cfg.qcap) : CommandEffect s (.enq a d)
      (({ s with queue := s.queue ++ [⟨a, d⟩] } : State).respond 0#4 0#32)
  | enqFull (a : Addr) (d : Byte) (hq : s.queue.length = s.cfg.qcap) : CommandEffect s (.enq a d)
      ((s.raise .queueOverflow).respond 3#4 0#32)
  | setnctrl1 (d : Byte) : CommandEffect s (.setnctrl1 d) (({ s with nextCtrl1 := d } : State).respond 0#4 0#32)
  | setnctrl2 (d : Byte) : CommandEffect s (.setnctrl2 d) (({ s with nextCtrl2 := d } : State).respond 0#4 0#32)
  | setnscroll (x y : Byte) : CommandEffect s (.setnscroll x y)
      (({ s with nextScrollX := x, nextScrollY := y } : State).respond 0#4 0#32)
  | setscrdis (d : Byte) : CommandEffect s (.setscrdis d) (({ s with scrdis := flagOperand d } : State).respond 0#4 0#32)
  | noTick (d : Byte) (hf : s.fsc ≠ .runningTick) : CommandEffect s (.cbret d) (s.respond 5#4 0#32)
  | tickFailed (d : Byte) (hf : s.fsc = .runningTick) (hd : flagOperand d = true) : CommandEffect s (.cbret d)
      ((s.raise .callbackFailed).respond 4#4 0#32)
  | tickReturn (d : Byte) (hf : s.fsc = .runningTick) (hd : flagOperand d = false) (hs : s.scrdis = false) :
      CommandEffect s (.cbret d) (({ s with
        ctrl1 := s.nextCtrl1, ctrl2 := s.nextCtrl2, scrollX := s.nextScrollX, scrollY := s.nextScrollY,
        fsc := .waitingForSync } : State).respond 0#4 0#32)
  | tickReturnDark (d : Byte) (hf : s.fsc = .runningTick) (hd : flagOperand d = false) (hs : s.scrdis = true) :
      CommandEffect s (.cbret d) (({ s with ctrl1 := s.nextCtrl1, fsc := .waitingForSync } : State).respond 0#4 0#32)
  | sprset (idx x y u v : Byte) (hi : idx.toNat < s.cfg.nsprites) : CommandEffect s (.sprset idx x y u v)
      ((s.setSlot idx.toNat x y u v).respond 0#4 0#32)
  | sprsetRange (idx x y u v : Byte) (hi : s.cfg.nsprites ≤ idx.toNat) : CommandEffect s (.sprset idx x y u v)
      ((s.raise .spriteIndexRange).respond 2#4 0#32)
  | sprclr : CommandEffect s .sprclr (s.hideSprites.respond 0#4 0#32)
  | sprgetRange (idx : Byte) (hi : s.cfg.nsprites ≤ idx.toNat) : CommandEffect s (.sprget idx)
      ((s.raise .spriteIndexRange).respond 2#4 0#32)
  | reinit : CommandEffect s .reinit (s.resetBlock.respond 0#4 0#32)

@[simp] theorem slotExists_iff (s : State) (idx : Byte) : s.slotExists idx = true ↔ idx.toNat < s.cfg.nsprites := by
  simp [State.slotExists]

/-- `CBRET` in each of its four cases (R154). -/
theorem execCbret_effect {d : Byte} {s t : State} (h : execCbret d s = .next t) : CommandEffect s (.cbret d) t := by
  unfold execCbret at h
  split at h
  · next hf => cases h; exact .noTick d hf
  · next hf =>
    have hf := not_not.1 hf
    split at h
    · next hd => cases h; exact .tickFailed d hf hd
    · next hd =>
      have hd := Bool.eq_false_iff.2 hd
      unfold State.leaveTick State.writeBack at h
      split at h
      · next hs => cases h; exact .tickReturnDark d hf hd hs
      · next hs => cases h; exact .tickReturn d hf hd (Bool.eq_false_iff.2 hs)

/-- A command's next state is one of those of `CommandEffect`. -/
theorem exec_effect {i : Instr} {s t : State} (h : exec i s = .next t) : CommandEffect s i t := by
  cases i with
  | wrctrl1 d => cases h; exact .wrctrl1 d
  | wrctrl2 d => cases h; exact .wrctrl2 d
  | wroamaddr d => cases h; exact .wroamaddr d
  | wroamdata d => cases h; exact .wroamdata d
  | wrscroll d =>
    simp only [exec, execWrscroll] at h
    split at h
    · next hw => cases h; exact .scrollY d hw
    · next hw => cases h; exact .scrollX d (Bool.eq_false_iff.2 hw)
  | wraddr d =>
    simp only [exec, execWraddr] at h
    split at h
    · next hw => cases h; exact .addrLow d hw
    · next hw => cases h; exact .addrHigh d (Bool.eq_false_iff.2 hw)
  | wrdata d => cases h; exact .wrdata d
  | rdstatus => cases h; exact .rdstatus
  | enq a d =>
    simp only [exec, execEnq] at h
    split at h
    · next hq => cases h; exact .enqFull a d hq
    · next hq => cases h; exact .enq a d hq
  | setnctrl1 d => cases h; exact .setnctrl1 d
  | setnctrl2 d => cases h; exact .setnctrl2 d
  | setnscroll x y => cases h; exact .setnscroll x y
  | setscrdis d => cases h; exact .setscrdis d
  | cbret d => exact execCbret_effect h
  | sprset idx x y u v =>
    simp only [exec, execSprset, slotExists_iff] at h
    split at h
    · next hi => cases h; exact .sprset idx x y u v hi
    · next hi => cases h; exact .sprsetRange idx x y u v (not_lt.1 hi)
  | sprclr => cases h; exact .sprclr
  | sprget idx =>
    simp only [exec, execSprget, slotExists_iff] at h
    split at h
    · cases h; exact .read _ _ rfl
    · next hi => cases h; exact .sprgetRange idx (not_lt.1 hi)
  | reinit => cases h; exact .reinit
  | _ => cases h; exact .read _ _ rfl

/-- A command leaves the inputs to come. -/
theorem CommandEffect.inputs_eq {s t : State} {i : Instr} (h : CommandEffect s i t) : t.inputs = s.inputs := by
  cases h <;> simp

/-- `W` after a command: flipped, cleared or kept (R30). -/
theorem CommandEffect.w_eq {s t : State} {i : Instr} (h : CommandEffect s i t) :
    t.w = if i.flips then !s.w else if i = .rdstatus ∨ i = .reinit then false else s.w := by
  cases h with
  | read i d hi =>
    obtain ⟨hf, hs, hr⟩ := Instr.frame_of_reads hi
    simp [hf, hs, hr]
  | scrollX d hw => simp [Instr.flips, hw]
  | scrollY d hw => simp [Instr.flips, hw]
  | addrHigh d hw => simp [Instr.flips, hw]
  | addrLow d hw => simp [Instr.flips, hw]
  | _ => simp [Instr.flips]

end Sys2Proof.Machine
end

section
/-! The bounds of R42 are kept by every step (O39), the state after reset meets them (O40), and a reset gives that state
from anywhere (O14). One lemma for each operation that writes what `State.Inv` speaks of; the other transitions keep
those fields. -/

namespace Sys2Proof.Machine

/-- The invariant speaks of eight fields only. -/
theorem State.Inv.congr {s t : State} (h : s.Inv) (hc : t.cfg = s.cfg) (hq : t.queue = s.queue) (he : t.err = s.err)
    (hl : t.lastErr = s.lastErr) (hs : t.status = s.status) (hn : t.ntMem = s.ntMem) (ha : t.atMem = s.atMem)
    (hp : t.sprMem = s.sprMem) : t.Inv where
  cfgValid := hc ▸ h.cfgValid
  queueBound := hc ▸ hq ▸ h.queueBound
  errReserved := he ▸ h.errReserved
  lastErrBound := hl ▸ h.lastErrBound
  statusReserved := hs ▸ h.statusReserved
  ntWf := hc ▸ hn ▸ h.ntWf
  atWf := hc ▸ ha ▸ h.atWf
  sprWf := hc ▸ hp ▸ h.sprWf

theorem State.Inv.respond {s : State} (h : s.Inv) (c : RespCode) (d : RespData) : (s.respond c d).Inv :=
  h.congr rfl rfl rfl rfl rfl rfl rfl rfl

theorem State.Inv.withInputs {s : State} (h : s.Inv) (r : List Action) : ({ s with inputs := r } : State).Inv :=
  h.congr rfl rfl rfl rfl rfl rfl rfl rfl

/-- A violation sets one of `ERR[3:0]` and a number of at most 4 (R181). -/
theorem State.Inv.raise {s : State} (h : s.Inv) (v : Violation) : (s.raise v).Inv :=
  { h with
    errReserved := by
      have hb : violationBit v &&& 0xF0#8 = 0#8 := by cases v <;> decide
      rw [raise_err, BitVec.and_or_distrib_right, h.errReserved, hb, BitVec.or_zero]
    lastErrBound := by rw [raise_lastErr]; cases v <;> decide }

/-- A flag of STATUS outside its reserved bits keeps them 0 (R24). -/
theorem writeFlag_reserved {v m : Byte} (b : Bool) (hv : v &&& 0x1F#8 = 0#8) (hm : m &&& 0x1F#8 = 0#8) :
    writeFlag v m b &&& 0x1F#8 = 0#8 := by
  cases b with
  | true => simp only [writeFlag, if_true, BitVec.and_or_distrib_right, hv, hm, BitVec.or_zero]
  | false =>
    rw [writeFlag, if_neg Bool.false_ne_true, BitVec.and_assoc, BitVec.and_comm (~~~m), ← BitVec.and_assoc, hv,
      BitVec.zero_and]

theorem State.Inv.dataPortWrite {s : State} (h : s.Inv) (b : Byte) : (s.dataPortWrite b).Inv where
  cfgValid := by simpa using h.cfgValid
  queueBound := by simpa using h.queueBound
  errReserved := by simpa using h.errReserved
  lastErrBound := by simpa using h.lastErrBound
  statusReserved := by simpa using h.statusReserved
  ntWf := by simpa using vWrite_ntWf s s.vaddr b h.ntWf
  atWf := by simpa using vWrite_atWf s s.vaddr b h.atWf
  sprWf := by simpa using h.sprWf

theorem State.Inv.applyEntries {s : State} (h : s.Inv) (es : List Entry) : (s.applyEntries es).Inv := by
  induction es generalizing s with
  | nil => exact h
  | cons e es ih =>
    have hv : ({ s with vaddr := e.addr } : State).Inv := h.congr rfl rfl rfl rfl rfl rfl rfl rfl
    exact ih (hv.dataPortWrite e.data)

theorem State.Inv.flush {s : State} (h : s.Inv) : s.flush.Inv :=
  { h.applyEntries s.queue with queueBound := Nat.zero_le _ }

theorem State.Inv.enterTick {s : State} (h : s.Inv) : s.enterTick.Inv := by
  obtain ⟨_, _, ht⟩ | ⟨_, ht⟩ := enterTick_cases s <;> rw [ht]
  · exact (h.raise .flushWhileRendering).congr rfl rfl rfl rfl rfl rfl rfl rfl
  · exact h.flush.congr rfl rfl rfl rfl rfl rfl rfl rfl

/-- `SPRCLR` writes cells of existing slots only (R171). -/
theorem State.Inv.hideSprites {s : State} (h : s.Inv) : s.hideSprites.Inv :=
  { h with
    sprWf := by
      obtain ⟨_, hn, _⟩ := h.cfgValid
      exact Memory.wf_hideSlots _ h.sprWf (Nat.sub_lt hn Nat.one_pos) }

/-- The state after reset with an admitted record (R44). -/
theorem boot_inv {c : Config} (h : c.Valid) : (State.boot c).Inv where
  cfgValid := h
  queueBound := Nat.zero_le _
  errReserved := BitVec.zero_and
  lastErrBound := Nat.zero_le _
  statusReserved := BitVec.zero_and
  ntWf := Memory.wf_nil _
  atWf := Memory.wf_nil _
  sprWf := Memory.wf_nil _

theorem State.Inv.resetBlock {s : State} (h : s.Inv) : s.resetBlock.Inv :=
  (boot_inv h.cfgValid).congr rfl rfl rfl rfl rfl rfl rfl rfl

theorem State.Inv.videoEvent {s : State} (h : s.Inv) (e : VideoEvent) : (videoEvent e s).Inv := by
  cases e with
  | vblank => exact { h with statusReserved := writeFlag_reserved true h.statusReserved rfl }
  | spr0 b => exact { h with statusReserved := writeFlag_reserved b h.statusReserved rfl }
  | ovf b => exact { h with statusReserved := writeFlag_reserved b h.statusReserved rfl }

theorem State.Inv.supervisorEvent {s : State} (h : s.Inv) (e : SupervisorEvent) : (supervisorEvent e s).Inv := by
  cases e with
  | shutdown => exact h.congr rfl rfl rfl rfl rfl rfl rfl rfl
  | reset => exact h.resetBlock

/-- Every command keeps the invariant. -/
theorem CommandEffect.inv {s t : State} {i : Instr} (h : CommandEffect s i t) (hs : s.Inv) : t.Inv := by
  cases h with
  | rdstatus =>
    refine State.Inv.respond ?_ _ _
    exact { hs with statusReserved := writeFlag_reserved false hs.statusReserved rfl }
  | wrdata d => exact (hs.dataPortWrite d).respond _ _
  | enq a d hq =>
    have hb := hs.queueBound
    refine State.Inv.respond ?_ _ _
    exact { hs with queueBound := by simp only [List.length_append, List.length_singleton]; omega }
  | sprset idx x y u v hi =>
    refine State.Inv.respond ?_ _ _
    exact { hs with sprWf := setSlot_wf s s.cfg.nsprites idx.toNat x y u v hs.sprWf hi }
  | sprclr => exact hs.hideSprites.respond _ _
  | reinit => exact hs.resetBlock.respond _ _
  | enqFull => exact (hs.raise _).respond _ _
  | tickFailed => exact (hs.raise _).respond _ _
  | sprsetRange => exact (hs.raise _).respond _ _
  | sprgetRange => exact (hs.raise _).respond _ _
  | _ => exact hs.congr rfl rfl rfl rfl rfl rfl rfl rfl

/-- Settles O39, by the cases of a step; each transition has its lemma above. -/
theorem invariantKeptByEveryStep : Obligations.InvariantKeptByEveryStep := by
  intro s t hs h
  obtain ⟨_, ⟨_, rest, _, _, _, h⟩ | ⟨_, rest, _, _, _, rfl⟩ | ⟨e, rest, _, rfl⟩ | ⟨e, rest, _, rfl⟩ |
    ⟨rest, _, _, _, _, rfl⟩ | ⟨rest, _, _, _, rfl⟩⟩ := step_cases h
  · exact (exec_effect h).inv (hs.withInputs rest)
  · exact (hs.withInputs rest).respond _ _
  · exact (hs.withInputs rest).videoEvent e
  · exact (hs.withInputs rest).supervisorEvent e
  · exact (hs.withInputs rest).enterTick
  · exact hs.congr rfl rfl rfl rfl rfl rfl rfl rfl

/-- Settles O40: the defaults of R4 are an admitted record (R5). -/
theorem invariantHoldsAfterReset : Obligations.InvariantHoldsAfterReset :=
  ⟨boot_inv (by decide), fun _ hc => ⟨boot_inv hc, .inl ⟨rfl, rfl⟩, BitVec.zero_and⟩⟩

/-- The reset values of R44, with whatever inputs, responses and reset number. -/
theorem boot_isReset (c : Config) (n : Nat) (as : List Action) (rs : List Resp) :
    ({ State.boot c with inputs := as, resps := rs, epoch := n } : State).IsReset c n where
  params := rfl
  control := ⟨rfl, rfl, rfl⟩
  oam := ⟨rfl, rfl⟩
  scroll := ⟨rfl, rfl⟩
  address := rfl
  toggle := rfl
  queueEmpty := rfl
  shadows := ⟨rfl, rfl, rfl, rfl⟩
  frameSync := ⟨rfl, rfl, rfl, rfl⟩
  log := ⟨rfl, rfl⟩
  nametable _ := rfl
  attributes _ := rfl
  sprites _ _ := rfl
  resetNumber := rfl

/-- Settles O14: both causes of a reset run `State.resetBlock`, which is `State.boot` with the next reset number. -/
theorem resetGivesTheResetState : Obligations.ResetGivesTheResetState :=
  ⟨fun s rest h => ⟨_, step_facing h, boot_isReset s.cfg (s.epoch + 1) rest s.resps, rfl, rfl⟩,
    fun s => ⟨_, rfl, boot_isReset s.cfg (s.epoch + 1) s.inputs _, rfl, rfl⟩, boot_isReset _ 0 _ _⟩

end Sys2Proof.Machine
end

section
/-! The error log in a step (O41): kept, extended by one violation, or cleared by a reset (R40, R182). -/

namespace Sys2Proof.Machine

theorem command_of_decode {w : CmdWord} {i : Instr} (h : decode w = .ok i) : (Action.host w).command = some i := by
  simp only [Action.command, h]

theorem command_of_illegal {w : CmdWord} {e : DecodeError} (h : decode w = .error e) :
    (Action.host w).command = none := by
  simp only [Action.command, h]

/-- A run that faces the event or the command of R221 faces a reset. -/
theorem facingReset_of_event {s : State} {rest : List Action} (h : s.inputs = .supervisor .reset :: rest) :
    s.FacingReset :=
  ⟨_, rest, h, rfl⟩

theorem facingReset_of_reinit {s : State} {a : Action} {rest : List Action} (h : s.inputs = a :: rest)
    (hc : a.command = some .reinit) : s.FacingReset :=
  ⟨a, rest, h, by simp [Action.resets, hc]⟩

/-- The log of `t` after a transition from `s`: kept, or one violation taken. -/
def LogGrows (s t : State) : Prop :=
  (t.err = s.err ∧ t.lastErr = s.lastErr) ∨ ∃ v, t.err = s.err ||| violationBit v ∧ t.lastErr = violationNumber v

/-- Only `REINIT` among the commands clears the log. -/
theorem CommandEffect.log {s t : State} {i : Instr} (h : CommandEffect s i t) :
    LogGrows s t ∨ (i = .reinit ∧ t.err = 0#8 ∧ t.lastErr = 0#4) := by
  cases h with
  | enqFull => exact .inl (.inr ⟨.queueOverflow, rfl, rfl⟩)
  | tickFailed => exact .inl (.inr ⟨.callbackFailed, rfl, rfl⟩)
  | sprsetRange => exact .inl (.inr ⟨.spriteIndexRange, rfl, rfl⟩)
  | sprgetRange => exact .inl (.inr ⟨.spriteIndexRange, rfl, rfl⟩)
  | reinit => exact .inr ⟨rfl, rfl, rfl⟩
  | wrdata d => exact .inl (.inl (by simp))
  | _ => exact .inl (.inl ⟨rfl, rfl⟩)

/-- The log in a step. -/
theorem step_log {s t : State} (h : step s = .next t) :
    LogGrows s t ∨ (s.FacingReset ∧ t.err = 0#8 ∧ t.lastErr = 0#4) := by
  obtain ⟨_, ⟨_, _, _, hi, hd, h⟩ | ⟨_, _, _, _, _, rfl⟩ | ⟨e, _, _, rfl⟩ | ⟨e, _, hi, rfl⟩ |
    ⟨rest, _, _, _, _, rfl⟩ | ⟨_, _, _, _, rfl⟩⟩ := step_cases h
  · obtain hl | ⟨rfl, hl⟩ := (exec_effect h).log
    · exact .inl hl
    · exact .inr ⟨facingReset_of_reinit hi (command_of_decode hd), hl⟩
  · exact .inl (.inl ⟨rfl, rfl⟩)
  · exact .inl (.inl (by cases e <;> exact ⟨rfl, rfl⟩))
  · cases e with
    | shutdown => exact .inl (.inl ⟨rfl, rfl⟩)
    | reset => exact .inr ⟨facingReset_of_event hi, rfl, rfl⟩
  · obtain ⟨_, _, ht⟩ | ⟨_, ht⟩ := enterTick_cases { s with inputs := rest } <;> rw [ht]
    · exact .inl (.inr ⟨.flushWhileRendering, rfl, rfl⟩)
    · exact .inl (.inl (by simp))
  · exact .inl (.inl ⟨rfl, rfl⟩)

/-- A violation taken leaves the log in agreement, whatever it was. -/
theorem LogGrows.agrees {s t : State} (h : LogGrows s t) (hs : s.LogAgrees) : t.LogAgrees := by
  obtain ⟨he, hl⟩ | ⟨v, he, hl⟩ := h
  · unfold State.LogAgrees
    rwa [he, hl]
  · refine .inr ⟨v, hl, ?_⟩
    rw [he, BitVec.and_or_distrib_right, BitVec.and_self]
    cases v <;> simp [violationBit]

/-- No bit of `ERR` is lost. -/
theorem LogGrows.sticky {s t : State} (h : LogGrows s t) {k : Nat} (hk : s.err.getLsbD k = true) :
    t.err.getLsbD k = true := by
  obtain ⟨he, _⟩ | ⟨v, he, _⟩ := h
  · rwa [he]
  · rw [he, BitVec.getLsbD_or, hk, Bool.true_or]

/-- Settles O41, from `step_log`. -/
theorem errorLogStaysConsistentAndSticky : Obligations.ErrorLogStaysConsistentAndSticky := by
  refine ⟨fun s t hs h => ?_, fun s t k h hk hk' => ?_⟩
  · obtain hg | ⟨_, hl⟩ := step_log h
    · exact hg.agrees hs
    · exact .inl hl
  · obtain hg | ⟨hr, _⟩ := step_log h
    · exact absurd hk' (by simp [hg.sticky hk])
    · exact hr

end Sys2Proof.Machine
end

section
/-! The write toggle (R30, R43): how each transition leaves `W`, the parity along a run (O42), its four writers (O43), and
that no response shows it (O50). -/

namespace Sys2Proof

theorem Action.flipsToggle_of_command {a : Action} {i : Instr} (h : a.command = some i) : a.flipsToggle = i.flips := by
  cases i <;> simp [Action.flipsToggle, Instr.flips, h]

/-- A status read or a reset, as a command. -/
theorem Action.clearsToggle_of_command {a : Action} {i : Instr} (h : a.command = some i) :
    a.clearsToggle = decide (i = .rdstatus ∨ i = .reinit) := by
  have ha : a ≠ .supervisor .reset := by rintro rfl; cases h
  rw [Bool.eq_iff_iff]
  simp [Action.clearsToggle, Action.resets, h, ha, or_comm]

theorem Action.toggle_kept_of_illegal {w : CmdWord} {e : DecodeError} (h : decode w = .error e) :
    (Action.host w).flipsToggle = false ∧ (Action.host w).clearsToggle = false := by
  simp [Action.flipsToggle, Action.clearsToggle, Action.resets, Machine.command_of_illegal h]

/-- One more action counts if it flips. -/
theorem flipCount_cons (a : Action) (as : List Action) :
    flipCount (a :: as) = flipCount as + if a.flipsToggle then 1 else 0 :=
  List.countP_cons

end Sys2Proof

namespace Sys2Proof.Machine

/-- The entry of a tick keeps `W`, the flush included (R143). -/
theorem enterTick_w (s : State) : s.enterTick.w = s.w := by
  obtain ⟨_, _, ht⟩ | ⟨_, ht⟩ := enterTick_cases s <;> simp [ht]

theorem enterTick_inputs (s : State) : s.enterTick.inputs = s.inputs := by
  obtain ⟨_, _, ht⟩ | ⟨_, ht⟩ := enterTick_cases s <;> simp [ht]

/-- `W` after a step: flipped by a port write, 0 after a status read or a reset, else kept; with no input left, kept. -/
theorem step_w {s t : State} (h : step s = .next t) :
    (s.inputs = [] ∧ t.w = s.w) ∨ ∃ a, s.inputs = a :: t.inputs ∧
      t.w = if a.flipsToggle then !s.w else if a.clearsToggle then false else s.w := by
  obtain ⟨_, ⟨w, rest, i, hi, hd, h⟩ | ⟨w, rest, e, hi, hd, rfl⟩ | ⟨e, rest, hi, rfl⟩ | ⟨e, rest, hi, rfl⟩ |
    ⟨rest, hi, _, _, _, rfl⟩ | ⟨rest, hi, _, _, rfl⟩⟩ := step_cases h
  · have he := exec_effect h
    have hc := command_of_decode hd
    refine .inr ⟨_, by rw [hi, he.inputs_eq], ?_⟩
    rw [he.w_eq, Action.flipsToggle_of_command hc, Action.clearsToggle_of_command hc]
    simp only [decide_eq_true_eq]
  · obtain ⟨hf, hc⟩ := Action.toggle_kept_of_illegal hd
    exact .inr ⟨_, hi, by simp [hf, hc]⟩
  · cases e <;> exact .inr ⟨_, hi, rfl⟩
  · cases e <;> exact .inr ⟨_, hi, rfl⟩
  · obtain hi | ⟨hi, _⟩ := hi
    · exact .inr ⟨_, by rw [hi, enterTick_inputs], enterTick_w _⟩
    · exact .inl ⟨hi, enterTick_w _⟩
  · obtain hi | ⟨hi, _⟩ := hi
    · exact .inr ⟨_, hi, rfl⟩
    · exact .inl ⟨hi, rfl⟩

/-- The parity of R43, from any value of `W`. -/
theorem run_w {as rest : List Action} {s t : State} (hi : s.inputs = as ++ rest)
    (hc : ∀ a ∈ as, a.clearsToggle = false) (h : Sys2Proof.core.run as.length s = .next t) :
    t.w = (s.w ^^ decide (flipCount as % 2 = 1)) := by
  induction as generalizing s with
  | nil => cases h; simp [flipCount]
  | cons a as ih =>
    obtain ⟨u, hu, hr⟩ := next_of_run Sys2Proof.core h
    obtain ⟨hn, _⟩ | ⟨b, hb, hw⟩ := step_w hu
    · rw [hi] at hn; cases hn
    · obtain ⟨rfl, hui⟩ : a = b ∧ as ++ rest = u.inputs := by simpa [hi] using hb
      have hca : a.clearsToggle = false := hc a List.mem_cons_self
      rw [ih hui.symm (fun c h => hc c (List.mem_cons_of_mem _ h)) hr, hw, flipCount_cons, hca]
      cases a.flipsToggle with
      | false => simp
      | true =>
        have hp : (flipCount as + 1) % 2 = 1 ↔ ¬ flipCount as % 2 = 1 := by omega
        rw [if_pos rfl, if_pos rfl, decide_eq_decide.2 hp, decide_not, Bool.not_xor, Bool.xor_not]

/-- The halves of an address after one of them was replaced (R115). -/
theorem extract_withHigh (a : Addr) (d : Byte) :
    (withHigh a d).extractLsb' 8 8 = d ∧ (withHigh a d).extractLsb' 0 8 = a.extractLsb' 0 8 := by
  constructor
  · ext i hi
    simp [withHigh, hi, show 8 + i < 16 by omega]
  · ext i hi
    simp [withHigh, hi, show i < 16 by omega]

theorem extract_withLow (a : Addr) (d : Byte) :
    (withLow a d).extractLsb' 8 8 = a.extractLsb' 8 8 ∧ (withLow a d).extractLsb' 0 8 = d := by
  constructor
  · ext i hi
    simp [withLow, hi, show 8 + i < 16 by omega]
  · ext i hi
    simp [withLow, hi, show i < 16 by omega]

/-- Settles O42: `run_w` from `W = 0`, then the write in its two cases. -/
theorem toggleIsParityOfPortWrites : Obligations.ToggleIsParityOfPortWrites := by
  intro s t as rest hs hi hc h
  have hw : t.w = decide (flipCount as % 2 = 1) := by rw [run_w hi hc h, hs, Bool.false_xor]
  refine ⟨hw, fun d => ?_⟩
  obtain hp | hp := Nat.mod_two_eq_zero_or_one (flipCount as)
  · have hw : t.w = false := by simp [hw, hp]
    exact ⟨⟨_, by simp only [exec, execWrscroll, hw]; rfl, by simp [hp]⟩,
      ⟨_, by simp only [exec, execWraddr, hw]; rfl, by simp [hp, extract_withHigh]⟩⟩
  · have hw : t.w = true := by simp [hw, hp]
    exact ⟨⟨_, by simp only [exec, execWrscroll, hw]; rfl, by simp [hp]⟩,
      ⟨_, by simp only [exec, execWraddr, hw]; rfl, by simp [hp, extract_withLow]⟩⟩

/-- Settles O43, from `step_w`. -/
theorem toggleWrittenOnlyByItsFour : Obligations.ToggleWrittenOnlyByItsFour := by
  intro s t h hne
  obtain ⟨_, hw⟩ | ⟨a, hi, hw⟩ := step_w h
  · exact absurd hw hne
  · refine ⟨a, _, hi, ?_⟩
    cases hf : a.flipsToggle with
    | true => exact .inl rfl
    | false =>
      cases hc : a.clearsToggle with
      | true => exact .inr ⟨rfl, by simpa [hf, hc] using hw⟩
      | false => exact absurd (by simpa [hf, hc] using hw) hne

/-- From two states that differ in `W` only, a command answers the same. -/
theorem exec_resps_toggle (i : Instr) (s : State) (b : Bool) :
    ∃ t t', exec i s = .next t ∧ exec i { s with w := b } = .next t' ∧ t'.resps = t.resps := by
  cases i with
  | wrscroll d => cases hw : s.w <;> cases b <;> simp [exec, execWrscroll, hw]
  | wraddr d => cases hw : s.w <;> cases b <;> simp [exec, execWraddr, hw]
  | wrdata d => exact ⟨_, _, rfl, rfl, by simp⟩
  | enq a d => by_cases hq : s.queue.length = s.cfg.qcap <;> simp [exec, execEnq, hq]
  | cbret d =>
    by_cases hf : s.fsc = .runningTick
    · cases hd : flagOperand d <;> cases hs : s.scrdis <;>
        simp [exec, execCbret, State.leaveTick, State.writeBack, hf, hd, hs]
    · simp [exec, execCbret, hf]
  | sprset idx x y u v => by_cases hi : idx.toNat < s.cfg.nsprites <;> simp [exec, execSprset, hi]
  | sprget idx => by_cases hi : idx.toNat < s.cfg.nsprites <;> simp [exec, execSprget, hi, State.sprByte]
  | _ => exact ⟨_, _, rfl, rfl, rfl⟩

/-- Settles O50, from `exec_resps_toggle`. -/
theorem noCommandRevealsTheToggle : Obligations.NoCommandRevealsTheToggle := by
  intro i s t t' b h h'
  obtain ⟨u, u', hu, hu', hr⟩ := exec_resps_toggle i s b
  cases hu.symm.trans h
  cases hu'.symm.trans h'
  exact hr

end Sys2Proof.Machine
end

section
/-! Who writes what (O51 to O54). Of the fields in `State.held` a step changes none but by a host command, by the flush of
a tick it enters, or by a reset; `CommandEffect` then names the commands. -/

namespace Sys2Proof.Machine

/-- The state without what events, violations, the controller and the command port itself write: STATUS, `PEND`, `FSC`,
`SHUT_REQ`, the error log, the inputs and the responses. -/
def State.held (s : State) : State :=
  { s with status := 0#8, pend := false, fsc := .waitingForSync, shutReq := false, err := 0#8, lastErr := 0#4,
           inputs := [], resps := [] }

/-- A view of the held fields agrees on states that agree there. -/
theorem view_eq {α : Type} (f : State → α) (hf : ∀ u : State, f u.held = f u) {u v : State} (e : u.held = v.held) :
    f u = f v := by
  rw [← hf u, ← hf v, e]

/-- What a step can do to the held fields. -/
theorem step_held {s t : State} (h : step s = .next t) :
    t.held = s.held ∨
    (∃ a rest i, s.inputs = a :: rest ∧ a.command = some i ∧ CommandEffect { s with inputs := rest } i t) ∨
    (s.fsc = .waitingForSync ∧ t.fsc = .runningTick ∧ t.held = s.flush.held) ∨
    (s.FacingReset ∧ t.held = s.resetBlock.held) := by
  obtain ⟨_, ⟨w, rest, i, hi, hd, h⟩ | ⟨w, rest, e, _, _, rfl⟩ | ⟨e, rest, _, rfl⟩ | ⟨e, rest, hi, rfl⟩ |
    ⟨rest, _, hf, _, _, rfl⟩ | ⟨rest, _, _, _, rfl⟩⟩ := step_cases h
  · exact .inr (.inl ⟨_, rest, i, hi, command_of_decode hd, exec_effect h⟩)
  · exact .inl rfl
  · cases e <;> exact .inl rfl
  · cases e with
    | shutdown => exact .inl rfl
    | reset => exact .inr (.inr (.inr ⟨facingReset_of_event hi, rfl⟩))
  · obtain ⟨_, _, ht⟩ | ⟨_, ht⟩ := enterTick_cases { s with inputs := rest } <;> rw [ht]
    · exact .inl rfl
    · exact .inr (.inr (.inl ⟨hf, rfl, by rw [flush_withInputs]; rfl⟩))
  · exact .inl rfl

/-- A change of a view `f` of the held fields, when the step is no reset, was made by a command or by a flush. -/
theorem change_cases {α : Type} (f : State → α) (hf : ∀ u : State, f u.held = f u) {s t : State}
    (h : step s = .next t) (hr : ¬ s.FacingReset) (hne : f t ≠ f s) :
    (∃ a rest i, s.inputs = a :: rest ∧ a.command = some i ∧ i ≠ .reinit ∧
      CommandEffect { s with inputs := rest } i t) ∨
    (s.fsc = .waitingForSync ∧ t.fsc = .runningTick ∧ f t = f s.flush) := by
  obtain e | ⟨a, rest, i, hi, hc, he⟩ | ⟨h1, h2, e⟩ | ⟨hr', _⟩ := step_held h
  · exact absurd (view_eq f hf e) hne
  · refine .inl ⟨a, rest, i, hi, hc, ?_, he⟩
    rintro rfl
    exact hr (facingReset_of_reinit hi hc)
  · exact .inr ⟨h1, h2, view_eq f hf e⟩
  · exact absurd hr' hr

/-- If only commands that `p` holds of change the view `f`, and no flush does, a step that is no reset changes it by such
a command. -/
theorem facingCommand_of_change {α : Type} (f : State → α) (hf : ∀ u : State, f u.held = f u) {s t : State}
    (h : step s = .next t) (hr : ¬ s.FacingReset) (hflush : f s.flush = f s) {p : Instr → Prop}
    (hp : ∀ rest i, CommandEffect { s with inputs := rest } i t → i ≠ .reinit → f t ≠ f s → p i) (hne : f t ≠ f s) :
    s.FacingCommand p := by
  obtain ⟨a, rest, i, hi, hc, hn, he⟩ | ⟨_, _, e⟩ := change_cases f hf h hr hne
  · exact ⟨a, rest, i, hi, hc, hp rest i he hn hne⟩
  · exact absurd (e.trans hflush) hne

section Registers

variable {s t : State} (h : step s = .next t) (hr : ¬ s.FacingReset)
include h hr

theorem ctrl1_writers (hne : t.ctrl1 ≠ s.ctrl1) :
    s.FacingCommand (fun i => (∃ d, i = .wrctrl1 d) ∨ ∃ d, i = .cbret d) := by
  refine facingCommand_of_change State.ctrl1 (fun _ => rfl) h hr (by simp) (fun rest i he hi hne => ?_) hne
  cases he with
  | wrctrl1 d => exact .inl ⟨d, rfl⟩
  | tickReturn d => exact .inr ⟨d, rfl⟩
  | tickReturnDark d => exact .inr ⟨d, rfl⟩
  | reinit => exact absurd rfl hi
  | _ => simp at hne

theorem ctrl2_writers (hne : t.ctrl2 ≠ s.ctrl2) :
    s.FacingCommand (fun i => (∃ d, i = .wrctrl2 d) ∨ ((∃ d, i = .cbret d) ∧ s.scrdis = false)) := by
  refine facingCommand_of_change State.ctrl2 (fun _ => rfl) h hr (by simp) (fun rest i he hi hne => ?_) hne
  cases he with
  | wrctrl2 d => exact .inl ⟨d, rfl⟩
  | tickReturn d _ _ hs => exact .inr ⟨⟨d, rfl⟩, hs⟩
  | reinit => exact absurd rfl hi
  | _ => simp at hne

theorem oamAddr_writers (hne : t.oamAddr ≠ s.oamAddr) : s.FacingCommand (fun i => ∃ d, i = .wroamaddr d) := by
  refine facingCommand_of_change State.oamAddr (fun _ => rfl) h hr (by simp) (fun rest i he hi hne => ?_) hne
  cases he with
  | wroamaddr d => exact ⟨d, rfl⟩
  | reinit => exact absurd rfl hi
  | _ => simp at hne

theorem oamData_writers (hne : t.oamData ≠ s.oamData) : s.FacingCommand (fun i => ∃ d, i = .wroamdata d) := by
  refine facingCommand_of_change State.oamData (fun _ => rfl) h hr (by simp) (fun rest i he hi hne => ?_) hne
  cases he with
  | wroamdata d => exact ⟨d, rfl⟩
  | reinit => exact absurd rfl hi
  | _ => simp at hne

theorem scroll_writers (hne : t.scrollX ≠ s.scrollX ∨ t.scrollY ≠ s.scrollY) :
    s.FacingCommand (fun i => (∃ d, i = .wrscroll d) ∨ ((∃ d, i = .cbret d) ∧ s.scrdis = false)) := by
  refine facingCommand_of_change (fun u => (u.scrollX, u.scrollY)) (fun _ => rfl) h hr (by simp)
    (fun rest i he hi hne => ?_) (by simpa [← not_and_or] using hne)
  cases he with
  | scrollX d => exact .inl ⟨d, rfl⟩
  | scrollY d => exact .inl ⟨d, rfl⟩
  | tickReturn d _ _ hs => exact .inr ⟨⟨d, rfl⟩, hs⟩
  | reinit => exact absurd rfl hi
  | _ => simp at hne

theorem vaddr_writers (hne : t.vaddr ≠ s.vaddr) :
    s.FacingCommand (fun i => (∃ d, i = .wraddr d) ∨ ∃ d, i = .wrdata d) ∨
      (t.fsc = .runningTick ∧ s.fsc = .waitingForSync) := by
  obtain ⟨a, rest, i, hi, hc, hn, he⟩ | ⟨hs, ht, _⟩ := change_cases State.vaddr (fun _ => rfl) h hr hne
  · refine .inl ⟨a, rest, i, hi, hc, ?_⟩
    cases he with
    | addrHigh d => exact .inl ⟨d, rfl⟩
    | addrLow d => exact .inl ⟨d, rfl⟩
    | wrdata d => exact .inr ⟨d, rfl⟩
    | reinit => exact absurd rfl hn
    | _ => simp at hne
  · exact .inr ⟨ht, hs⟩

theorem nextCtrl1_writers (hne : t.nextCtrl1 ≠ s.nextCtrl1) : s.FacingCommand (fun i => ∃ d, i = .setnctrl1 d) := by
  refine facingCommand_of_change State.nextCtrl1 (fun _ => rfl) h hr (by simp) (fun rest i he hi hne => ?_) hne
  cases he with
  | setnctrl1 d => exact ⟨d, rfl⟩
  | reinit => exact absurd rfl hi
  | _ => simp at hne

theorem nextCtrl2_writers (hne : t.nextCtrl2 ≠ s.nextCtrl2) : s.FacingCommand (fun i => ∃ d, i = .setnctrl2 d) := by
  refine facingCommand_of_change State.nextCtrl2 (fun _ => rfl) h hr (by simp) (fun rest i he hi hne => ?_) hne
  cases he with
  | setnctrl2 d => exact ⟨d, rfl⟩
  | reinit => exact absurd rfl hi
  | _ => simp at hne

theorem nextScroll_writers (hne : t.nextScrollX ≠ s.nextScrollX ∨ t.nextScrollY ≠ s.nextScrollY) :
    s.FacingCommand (fun i => ∃ x y, i = .setnscroll x y) := by
  refine facingCommand_of_change (fun u => (u.nextScrollX, u.nextScrollY)) (fun _ => rfl) h hr (by simp)
    (fun rest i he hi hne => ?_) (by simpa [← not_and_or] using hne)
  cases he with
  | setnscroll x y => exact ⟨x, y, rfl⟩
  | reinit => exact absurd rfl hi
  | _ => simp at hne

theorem scrdis_writers (hne : t.scrdis ≠ s.scrdis) : s.FacingCommand (fun i => ∃ d, i = .setscrdis d) := by
  refine facingCommand_of_change State.scrdis (fun _ => rfl) h hr (by simp) (fun rest i he hi hne => ?_) hne
  cases he with
  | setscrdis d => exact ⟨d, rfl⟩
  | reinit => exact absurd rfl hi
  | _ => simp at hne

end Registers

/-- Settles O54: each register has its lemma above. -/
theorem registersHaveOnlyTheirWriters : Obligations.RegistersHaveOnlyTheirWriters := fun _ _ h hr =>
  ⟨ctrl1_writers h hr, ctrl2_writers h hr, oamAddr_writers h hr, oamData_writers h hr, scroll_writers h hr,
    vaddr_writers h hr, nextCtrl1_writers h hr, nextCtrl2_writers h hr, nextScroll_writers h hr, scrdis_writers h hr⟩

/-- Settles O53: among the commands only `ENQ` touches the queue, at its end; a flush and a reset empty it. -/
theorem queueIsFirstInFirstOut : Obligations.QueueIsFirstInFirstOut := by
  intro s t h
  obtain e | ⟨a, rest, i, hi, hc, he⟩ | ⟨hs, ht, e⟩ | ⟨hr, e⟩ := step_held h
  · exact .inl (view_eq State.queue (fun _ => rfl) e)
  · cases he with
    | enq b d => exact .inr (.inl ⟨b, d, ⟨a, rest, _, hi, hc, rfl⟩, rfl⟩)
    | reinit => exact .inr (.inr ⟨rfl, .inr (facingReset_of_reinit hi hc)⟩)
    | _ => exact .inl (by simp)
  · exact .inr (.inr ⟨view_eq State.queue (fun _ => rfl) e, .inl ⟨hs, ht⟩⟩)
  · exact .inr (.inr ⟨view_eq State.queue (fun _ => rfl) e, .inr hr⟩)

/-- A VRAM read after a data-port write changes at the old `VADDR` only (R62, R64). -/
theorem vRead_dataPortWrite_of_ne {s : State} (hv : s.cfg.Valid) {a : Addr} (b : Byte) (ha : a ≠ s.vaddr) :
    (s.dataPortWrite b).vRead a = s.vRead a := by
  have e : (s.dataPortWrite b).vRead a = (s.vWrite s.vaddr b).vRead a := vRead_congr rfl rfl rfl rfl a
  rw [e, vRead_vWrite s hv, if_neg (by simp [ha])]

/-- A flush with no entry for an address leaves what it reads as (R143). -/
theorem vRead_flush_of_no_entry {s : State} (hv : s.cfg.Valid) {a : Addr} (ha : ∀ e ∈ s.queue, e.addr ≠ a) :
    s.flush.vRead a = s.vRead a := by
  have hn : (s.queue.reverse.find? fun e => e.addr == a) = none := by simpa using ha
  have e : s.flush.vRead a = (s.applyEntries s.queue).vRead a := vRead_congr rfl rfl rfl rfl a
  rw [e, vRead_applyEntries s hv, hn]
  simp

/-- Settles O51: a store at another address and a flush without an entry for it leave an address as it was. -/
theorem vramChangesOnlyThroughTheDataPort : Obligations.VramChangesOnlyThroughTheDataPort := by
  intro s t a h hne
  by_cases hr : s.FacingReset
  · exact .inr (.inr hr)
  have hv := (step_cases h).1
  obtain ⟨b, rest, i, hi, hc, hn, he⟩ | ⟨hs, ht, e⟩ := change_cases (·.vRead a) (fun _ => rfl) h hr hne
  · cases he with
    | wrdata d =>
      refine .inl ⟨⟨b, rest, _, hi, hc, d, rfl⟩, by_contra fun ha => hne ?_⟩
      exact vRead_dataPortWrite_of_ne (s := { s with inputs := rest }) hv d ha
    | reinit => exact absurd rfl hn
    | _ => exact absurd rfl hne
  · refine .inr (.inl ⟨hs, ht, by_contra fun ha => hne (e.trans (vRead_flush_of_no_entry hv ?_))⟩)
    exact fun x hx hxa => ha ⟨x, hx, hxa⟩

/-- Settles O52, from what the two sprite commands leave of a field. -/
theorem spriteFieldsChangeOnlyByTheirCommands : Obligations.SpriteFieldsChangeOnlyByTheirCommands := by
  intro s t j f h hne
  by_cases hr : s.FacingReset
  · exact .inr (.inr hr)
  obtain ⟨a, rest, i, hi, hc, hn, he⟩ | ⟨_, _, e⟩ := change_cases (·.sprByte j f) (fun _ => rfl) h hr hne
  · cases he with
    | sprset idx x y u v =>
      refine .inl ⟨a, rest, _, hi, hc, idx, x, y, u, v, rfl, by_contra fun hj => hne ?_⟩
      exact (sprByte_setSlot { s with inputs := rest } idx.toNat j x y u v f).trans (if_neg (Ne.symm hj))
    | sprclr =>
      have hy : 1 ≤ j ∧ j ≤ s.cfg.nsprites - 1 ∧ f = .y := by_contra fun hj => hne
        ((sprByte_hideSprites { s with inputs := rest } j f).trans (if_neg hj))
      obtain ⟨h1, hj, hf⟩ := hy
      exact .inr (.inl ⟨⟨a, rest, _, hi, hc, rfl⟩, h1, by omega, hf⟩)
    | wrdata d => exact absurd (sprByte_congr (by simp) (by simp) j f) hne
    | reinit => exact absurd rfl hn
    | _ => exact absurd rfl hne
  · exact absurd (e.trans (sprByte_congr (by simp) (by simp) j f)) hne

end Sys2Proof.Machine
end

section
/-! The byte form of a command (R67): the decoder reads the encoder's word, and the word is its six bytes, opcode first. -/

namespace Sys2Proof

/-- The opcode of a command's word picks the command's own format, and the operands read back from its fields. -/
theorem decode_encode (i : Instr) : decode (encode i) = .ok i := by
  cases i with
  | enq a d => simp only [encode, decode, opcode_wordQ, formatQ_wordQ]
  | setnscroll hi lo => simp only [encode, decode, opcode_wordP, formatP_wordP]
  | sprset idx x y u v => simp only [encode, decode, opcode_wordS, formatS_wordS]
  | sprget idx => simp only [encode, decode, opcode_wordI, formatI_wordI]
  | _ => simp only [encode, decode, opcode_wordB, formatB_wordB, opcode_wordN, formatN_wordN]

/-- Settles O7: the bytes read back as the word (`wordOfBytes_bytesOfWord`), and the word as the command. -/
theorem serialisedCommandsDecodeOpcodeFirst : Obligations.SerialisedCommandsDecodeOpcodeFirst := by
  intro i rest
  refine ⟨rfl, rfl, ?_⟩
  simp only [decodeBytes, wordOfBytes_bytesOfWord, decode_encode]

end Sys2Proof
end

section
/-! What `VRead` gives at an address (R63), and what the reads leave of the snapshot (R71, R205). -/

namespace Sys2Proof.Machine

theorem vRead_of_inNt {s : State} {a : Addr} (h : s.inNt a = true) :
    s.vRead a = some (s.ntByte (a.toNat - s.cfg.ntBase.toNat)) := if_pos h

theorem vRead_of_inAt {s : State} {a : Addr} (hn : s.inNt a = false) (h : s.inAt a = true) :
    s.vRead a = some (s.atByte (a.toNat - s.cfg.atBase.toNat)) := by
  simp [State.vRead, hn, h]

theorem vRead_of_unbacked {s : State} {a : Addr} (hn : s.inNt a = false) (h : s.inAt a = false) : s.vRead a = none := by
  simp [State.vRead, hn, h]

/-- The two ranges of an admitted record share no address (R5). -/
theorem inNt_eq_false_of_inAt {s : State} (hv : s.cfg.Valid) {a : Addr} (h : s.inAt a = true) : s.inNt a = false := by
  obtain ⟨_, _, _, _, _, _, _, _, hd, _⟩ := hv
  simp only [State.inAt, State.inNt, decide_eq_true_eq, decide_eq_false_iff_not] at h ⊢
  omega

/-- Settles O27: the three branches of `VRead`, the second reached because the ranges are disjoint. -/
theorem snapshotReadsOnlyBackedAddresses : Obligations.SnapshotReadsOnlyBackedAddresses := by
  intro s a hv
  refine ⟨fun hn => vRead_of_inNt (decide_eq_true hn), fun ha => ?_, fun hn ha =>
    vRead_of_unbacked (decide_eq_false hn) (decide_eq_false ha)⟩
  have ha : s.inAt a = true := decide_eq_true ha
  exact vRead_of_inAt (inNt_eq_false_of_inAt hv ha) ha

@[simp] theorem snapshot_respond (s : State) (c : RespCode) (d : RespData) : (s.respond c d).snapshot = s.snapshot := rfl

/-- Clearing the vblank flag makes it read 0 and keeps the other bits of STATUS (R119). -/
theorem getLsbD_clear_vblank (v : Byte) (k : Nat) :
    (writeFlag v vblankBit false).getLsbD k = if k = 7 then false else v.getLsbD k :=
  getLsbD_writeFlag v 7 false k

theorem clear_vblank_of_clear {v : Byte} (h : v.getLsbD 7 = false) : writeFlag v vblankBit false = v := by
  refine BitVec.eq_of_getLsbD_eq fun k _ => ?_
  rw [getLsbD_clear_vblank]
  split
  · next hk => rw [hk, h]
  · rfl

/-- What the first `RDSTATUS` leaves: the vblank flag and `W` are clear. -/
theorem clear_of_rdstatus {s t : State} (h : exec .rdstatus s = .next t) : t.vblank = false ∧ t.w = false := by
  cases h
  exact ⟨getLsbD_clear_vblank s.status 7, rfl⟩

/-- With the vblank flag and `W` clear, `RDSTATUS` has nothing left to clear: it is a read without side effect. -/
theorem rdstatus_of_clear {s t : State} (h : exec .rdstatus s = .next t) (hv : s.vblank = false) (hw : s.w = false) :
    t = s.respond 0#4 (byteData s.statusByte) := by
  cases h
  rw [clear_vblank_of_clear hv, ← hw]
  rfl

/-- Bit 7 of what `RDSTATUS` answers is the vblank flag. -/
theorem getLsbD_statusData (s : State) : (byteData s.statusByte).getLsbD 7 = s.vblank := by
  simp [byteData, State.statusByte, State.vblank]

/-- Settles O55: a listed command has the effect of a read, since its index is in range if it is `SPRGET`; and a second
`RDSTATUS` finds nothing to clear. -/
theorem readsHaveNoSideEffect : Obligations.ReadsHaveNoSideEffect := by
  refine ⟨fun i s t h hi => ?_, fun s t u hst htu => ?_⟩
  · cases exec_effect h with
    | read i d => exact snapshot_respond s 0#4 d
    | sprgetRange idx hn =>
      have hlt : idx.toNat < s.cfg.nsprites := by simpa using hi
      exact absurd hlt (not_lt.2 hn)
    | _ => simp at hi
  · obtain ⟨hv, hw⟩ := clear_of_rdstatus hst
    rw [rdstatus_of_clear htu hv hw]
    exact ⟨snapshot_respond .., _, _, rfl, (getLsbD_statusData t).trans hv⟩

end Sys2Proof.Machine
end

section
/-! The decoder row by row (R91 to R94, R100, R101): `Format.Clear` says that the must-be-zero bits of a format are 0, and
`decode_row` what the decoder reads from a word whose opcode is that of a row of the opcode map. -/

namespace Sys2Proof

/-- The must-be-zero bits of a format: the lowest of them and how many there are (R91). -/
def Format.zeros : Format → Nat × Nat
  | .n => (0, 40)
  | .b => (8, 32)
  | .p => (16, 24)
  | .q => (24, 16)
  | .i => (0, 32)
  | .s => (0, 0)

/-- The must-be-zero bits of the format are 0 in the word, as the decoder tests them. -/
abbrev Format.Clear (f : Format) (w : CmdWord) : Prop := w.extractLsb' f.zeros.1 f.zeros.2 = 0#f.zeros.2

/-- The mask of a format leaves a row's match iff the opcode is the row's and the must-be-zero bits are 0 (R92). -/
theorem masked_eq_pattern_iff (f : Format) (w : CmdWord) (op : Byte) :
    w &&& f.mask = op.setWidth 48 <<< 40 ↔ opcodeField w = op ∧ f.Clear w := by
  obtain ⟨hn, hb, hp, hq, hi, hs⟩ := mask_fields
  cases f with
  | n => rw [hn]; exact masked_eq_pattern w op 0 40 (by omega)
  | b => rw [hb]; exact masked_eq_pattern w op 8 32 (by omega)
  | p => rw [hp]; exact masked_eq_pattern w op 16 24 (by omega)
  | q => rw [hq]; exact masked_eq_pattern w op 24 16 (by omega)
  | i => rw [hi]; exact masked_eq_pattern w op 0 32 (by omega)
  | s => rw [hs]; exact masked_eq_pattern w op 0 0 (by omega)

theorem Format.Clear.getLsbD {f : Format} {w : CmdWord} (h : f.Clear w) {i : Nat} (hl : f.zeros.1 ≤ i)
    (hu : i < f.zeros.1 + f.zeros.2) : w.getLsbD i = false := by
  have hb := congrArg (fun v => v.getLsbD (i - f.zeros.1)) h
  simpa [hl, show i - f.zeros.1 < f.zeros.2 by omega] using hb

/-- A word made of bits of `w`, all those outside the must-be-zero bits of a format among them, is `w` if those are 0. -/
theorem Format.Clear.eq_word {f : Format} {v w : CmdWord} (h : f.Clear w) {p : Nat → Bool}
    (hv : ∀ i, v.getLsbD i = (p i && w.getLsbD i))
    (hp : ∀ i < 48, p i = true ∨ f.zeros.1 ≤ i ∧ i < f.zeros.1 + f.zeros.2) : v = w := by
  refine BitVec.eq_of_getLsbD_eq fun i hi => ?_
  rw [hv]
  obtain hpi | ⟨hl, hu⟩ := hp i hi
  · rw [hpi, Bool.true_and]
  · rw [h.getLsbD hl hu, Bool.and_false]

/-- The operands copied out of a word of format N whose must-be-zero bits are 0, put together again; so for each format. -/
theorem wordN_of_clear {w : CmdWord} (h : Format.n.Clear w) : wordN (opcodeField w) = w := by
  apply h.eq_word
  · exact getLsbD_field_extract w 40 8
  · intro i hi
    simp only [decide_eq_true_eq, Format.zeros]
    omega

theorem wordB_of_clear {w : CmdWord} (h : Format.b.Clear w) : wordB (opcodeField w) (w.extractLsb' 0 8) = w := by
  apply h.eq_word
  · intro i
    simp only [wordB, opcodeField, BitVec.getLsbD_or, getLsbD_field_extract, ← Bool.and_or_distrib_right]
    rfl
  · intro i hi
    simp only [Bool.or_eq_true, decide_eq_true_eq, Format.zeros]
    omega

theorem wordP_of_clear {w : CmdWord} (h : Format.p.Clear w) :
    wordP (opcodeField w) (w.extractLsb' 8 8) (w.extractLsb' 0 8) = w := by
  apply h.eq_word
  · intro i
    simp only [wordP, opcodeField, BitVec.getLsbD_or, getLsbD_field_extract, ← Bool.and_or_distrib_right]
    rfl
  · intro i hi
    simp only [Bool.or_eq_true, decide_eq_true_eq, Format.zeros]
    omega

theorem wordQ_of_clear {w : CmdWord} (h : Format.q.Clear w) :
    wordQ (opcodeField w) (w.extractLsb' 8 16) (w.extractLsb' 0 8) = w := by
  apply h.eq_word
  · intro i
    simp only [wordQ, opcodeField, BitVec.getLsbD_or, getLsbD_field_extract, ← Bool.and_or_distrib_right]
    rfl
  · intro i hi
    simp only [Bool.or_eq_true, decide_eq_true_eq, Format.zeros]
    omega

theorem wordI_of_clear {w : CmdWord} (h : Format.i.Clear w) : wordI (opcodeField w) (w.extractLsb' 32 8) = w := by
  apply h.eq_word
  · intro i
    simp only [wordI, opcodeField, BitVec.getLsbD_or, getLsbD_field_extract, ← Bool.and_or_distrib_right]
    rfl
  · intro i hi
    simp only [Bool.or_eq_true, decide_eq_true_eq, Format.zeros]
    omega

/-- What the decoder reads from a word with the opcode of the row `r`: the command of that row whose encoding the word is
if the must-be-zero bits are 0, else an error. -/
def OpRow.Reads (r : OpRow) (w : CmdWord) : Prop :=
  (r.format.Clear w ∧ ∃ i, decode w = .ok i ∧ encode i = w ∧ (disassemble i).mnemonic = r.mnemonic) ∨
  (¬ r.format.Clear w ∧ decode w = .error (.mustBeZero w))

theorem OpRow.reads_of_ite {r : OpRow} {w : CmdWord} {i : Instr}
    (hd : decode w = if r.format.Clear w then .ok i else .error (.mustBeZero w))
    (he : r.format.Clear w → encode i = w) (hm : (disassemble i).mnemonic = r.mnemonic) : r.Reads w := by
  by_cases hc : r.format.Clear w
  · exact .inl ⟨hc, i, by rw [hd, if_pos hc], he hc, hm⟩
  · exact .inr ⟨hc, by rw [hd, if_neg hc]⟩

section Rows

variable {op : Byte} {m : String} {bs : List Nat} {w : CmdWord}

/-- A row of format N, given its command; so for each format, given the constructor of its commands. -/
theorem reads_n (i : Instr) (ho : opcodeField w = op)
    (hd : opcodeField w = op → decode w = formatN w i := by intro h; simp only [decode, h])
    (he : encode i = wordN op := by rfl) (hm : (disassemble i).mnemonic = m := by rfl) :
    OpRow.Reads ⟨op, m, .n, bs⟩ w :=
  OpRow.reads_of_ite (hd ho) (fun hc => by rw [he, ← ho, wordN_of_clear hc]) hm

theorem reads_b (k : Byte → Instr) (ho : opcodeField w = op)
    (hd : opcodeField w = op → decode w = formatB w k := by intro h; simp only [decode, h])
    (he : ∀ d, encode (k d) = wordB op d := by intros; rfl)
    (hm : ∀ d, (disassemble (k d)).mnemonic = m := by intros; rfl) : OpRow.Reads ⟨op, m, .b, bs⟩ w :=
  OpRow.reads_of_ite (hd ho) (fun hc => by rw [he, ← ho, wordB_of_clear hc]) (hm _)

theorem reads_p (k : Byte → Byte → Instr) (ho : opcodeField w = op)
    (hd : opcodeField w = op → decode w = formatP w k := by intro h; simp only [decode, h])
    (he : ∀ x y, encode (k x y) = wordP op x y := by intros; rfl)
    (hm : ∀ x y, (disassemble (k x y)).mnemonic = m := by intros; rfl) : OpRow.Reads ⟨op, m, .p, bs⟩ w :=
  OpRow.reads_of_ite (hd ho) (fun hc => by rw [he, ← ho, wordP_of_clear hc]) (hm _ _)

theorem reads_q (k : Addr → Byte → Instr) (ho : opcodeField w = op)
    (hd : opcodeField w = op → decode w = formatQ w k := by intro h; simp only [decode, h])
    (he : ∀ a d, encode (k a d) = wordQ op a d := by intros; rfl)
    (hm : ∀ a d, (disassemble (k a d)).mnemonic = m := by intros; rfl) : OpRow.Reads ⟨op, m, .q, bs⟩ w :=
  OpRow.reads_of_ite (hd ho) (fun hc => by rw [he, ← ho, wordQ_of_clear hc]) (hm _ _)

theorem reads_i (k : Byte → Instr) (ho : opcodeField w = op)
    (hd : opcodeField w = op → decode w = formatI w k := by intro h; simp only [decode, h])
    (he : ∀ x, encode (k x) = wordI op x := by intros; rfl)
    (hm : ∀ x, (disassemble (k x)).mnemonic = m := by intros; rfl) : OpRow.Reads ⟨op, m, .i, bs⟩ w :=
  OpRow.reads_of_ite (hd ho) (fun hc => by rw [he, ← ho, wordI_of_clear hc]) (hm _)

/-- Format S has no must-be-zero bit, so every word with the opcode is a command. -/
theorem reads_s (k : Byte → Byte → Byte → Byte → Byte → Instr) (ho : opcodeField w = op)
    (hd : opcodeField w = op → decode w = formatS w k := by intro h; simp only [decode, h])
    (he : ∀ i x y t a, encode (k i x y t a) = wordS op i x y t a := by intros; rfl)
    (hm : ∀ i x y t a, (disassemble (k i x y t a)).mnemonic = m := by intros; rfl) : OpRow.Reads ⟨op, m, .s, bs⟩ w :=
  .inl ⟨BitVec.of_length_zero, _, hd ho, by rw [he, ← ho]; exact word_of_six_fields w, hm ..⟩

end Rows

/-- The decoder on a word with the opcode of a row: the rows of the opcode map beside the commands they are for. -/
theorem decode_row {w : CmdWord} : ∀ r ∈ opcodeMap, opcodeField w = r.op → r.Reads w := by
  simp only [opcodeMap, opcodeMapPorts, List.cons_append, List.nil_append, List.forall_mem_cons]
  exact ⟨reads_b .wrctrl1, reads_b .wrctrl2, reads_b .wroamaddr, reads_b .wroamdata, reads_b .wrscroll, reads_b .wraddr,
    reads_b .wrdata, reads_n .rdctrl1, reads_n .rdctrl2, reads_n .rdstatus, reads_n .rdoamaddr, reads_n .rdoamdata,
    reads_n .rdscroll, reads_n .rdaddr, reads_q .enq, reads_n .rdqlen, reads_b .setnctrl1, reads_b .setnctrl2,
    reads_p .setnscroll, reads_b .setscrdis, reads_b .cbret, reads_n .rderr, reads_n .rdfsc, reads_s .sprset,
    reads_n .sprclr, reads_i .sprget, reads_n .reinit, List.forall_mem_nil _⟩

/-- A word whose opcode is in no row is rejected by that opcode (R101). -/
theorem decode_of_reserved {w : CmdWord} (h : ∀ r ∈ opcodeMap, r.op ≠ opcodeField w) :
    decode w = .error (.reservedOpcode (opcodeField w)) := by
  have hn : opcodeField w ∉ opcodeMap.map OpRow.op := by simpa using h
  unfold decode
  split
  case h_28 => rfl
  all_goals next ho => exact absurd (by rw [ho]; decide) hn

/-- A word that decodes is the encoding of its command: only a word with the opcode of a row decodes. -/
theorem encode_of_decode {w : CmdWord} {i : Instr} (h : decode w = .ok i) : encode i = w := by
  by_cases hm : ∃ r ∈ opcodeMap, r.op = opcodeField w
  · obtain ⟨r, hr, ho⟩ := hm
    obtain ⟨_, j, hj, he, _⟩ | ⟨_, hj⟩ := decode_row r hr ho.symm
    · cases hj.symm.trans h
      exact he
    · cases hj.symm.trans h
  · have hn := decode_of_reserved (w := w) (by simpa using hm)
    cases hn.symm.trans h

/-- Each command's row of the opcode map (R93). -/
theorem opcodeRow (i : Instr) : Laws.OpcodeRow.Statement i := by
  open Laws.OpcodeRow in
  cases i with
  | wrctrl1 d => exact wrctrl1 d
  | wrctrl2 d => exact wrctrl2 d
  | wroamaddr d => exact wroamaddr d
  | wroamdata d => exact wroamdata d
  | wrscroll d => exact wrscroll d
  | wraddr d => exact wraddr d
  | wrdata d => exact wrdata d
  | rdctrl1 => exact rdctrl1
  | rdctrl2 => exact rdctrl2
  | rdstatus => exact rdstatus
  | rdoamaddr => exact rdoamaddr
  | rdoamdata => exact rdoamdata
  | rdscroll => exact rdscroll
  | rdaddr => exact rdaddr
  | enq a d => exact enq a d
  | rdqlen => exact rdqlen
  | setnctrl1 d => exact setnctrl1 d
  | setnctrl2 d => exact setnctrl2 d
  | setnscroll x y => exact setnscroll x y
  | setscrdis d => exact setscrdis d
  | cbret d => exact cbret d
  | rderr => exact rderr
  | rdfsc => exact rdfsc
  | sprset i x y t a => exact sprset i x y t a
  | sprclr => exact sprclr
  | sprget i => exact sprget i
  | reinit => exact reinit

/-- The row with a command's mnemonic has the opcode of the command's word. -/
theorem op_eq_of_mnemonic_eq {i : Instr} {r : OpRow} (hr : r ∈ opcodeMap)
    (hm : (disassemble i).mnemonic = r.mnemonic) : r.op = opcodeField (encode i) := by
  have hf : r ∈ opcodeMap.filter fun q => q.mnemonic == (disassemble i).mnemonic :=
    List.mem_filter.2 ⟨hr, by simp [hm]⟩
  have ho := List.mem_map_of_mem (f := OpRow.op) hf
  rw [opcodeRow i] at ho
  exact List.mem_singleton.1 ho

/-- Settles O2. -/
theorem decodeOfEncodeIsIdentity : Obligations.DecodeOfEncodeIsIdentity := decode_encode

/-- Settles O3: the word's opcode is that of a row, and `decode_row` gives the encoding for each of the 27. -/
theorem encodeOfDecodeIsIdentity : Obligations.EncodeOfDecodeIsIdentity := fun _ _ => encode_of_decode

/-- A word decodes to a command of a row iff its opcode is the row's and the must-be-zero bits are 0. -/
theorem decodes_to_row_iff {w : CmdWord} {r : OpRow} (hr : r ∈ opcodeMap) :
    (∃ i, decode w = .ok i ∧ (disassemble i).mnemonic = r.mnemonic) ↔ opcodeField w = r.op ∧ r.format.Clear w := by
  constructor
  · rintro ⟨i, hd, hm⟩
    have ho : opcodeField w = r.op := by rw [op_eq_of_mnemonic_eq hr hm, encode_of_decode hd]
    obtain ⟨hc, _⟩ | ⟨_, he⟩ := decode_row r hr ho
    · exact ⟨ho, hc⟩
    · cases he.symm.trans hd
  · rintro ⟨ho, hc⟩
    obtain ⟨_, i, hd, _, hm⟩ | ⟨hn, _⟩ := decode_row r hr ho
    · exact ⟨i, hd, hm⟩
    · exact absurd hc hn

/-- Settles O4: both sides say that the opcode is the row's and the must-be-zero bits are 0 (`decodes_to_row_iff`,
`masked_eq_pattern_iff`). -/
theorem wordIsCommandIffMaskedWordIsMatch : Obligations.WordIsCommandIffMaskedWordIsMatch :=
  ⟨by decide, fun w r hr => (decodes_to_row_iff hr).trans (masked_eq_pattern_iff r.format w r.op).symm⟩

/-- A row's match has no bit below the opcode (R92). -/
theorem pattern_low_zero (op : Byte) : op.setWidth 48 <<< 40 &&& 0x00FFFFFFFFFF#48 = 0#48 := by
  have hp : op.setWidth 48 <<< 40 = field op 40 := rfl
  have hl : 0x00FFFFFFFFFF#48 = field (BitVec.allOnes 40) 0 := by decide
  rw [hp, hl]
  refine BitVec.eq_of_getLsbD_eq fun i _ => ?_
  simp only [BitVec.getLsbD_and, getLsbD_field, BitVec.getLsbD_allOnes, BitVec.getLsbD_zero, Nat.sub_zero]
  by_cases h : 40 ≤ i
  · simp [h]
  · simp [h]

/-- A word with one of the two faults of R100 is rejected. -/
theorem decode_of_illegal {w : CmdWord} (h : (∀ r ∈ opcodeMap, r.op ≠ opcodeField w) ∨
    ∃ r ∈ opcodeMap, r.op = opcodeField w ∧ w &&& r.format.mask &&& 0x00FFFFFFFFFF#48 ≠ 0#48) :
    ∃ e, decode w = .error e := by
  obtain h | ⟨r, hr, ho, hz⟩ := h
  · exact ⟨_, decode_of_reserved h⟩
  · obtain ⟨hc, _⟩ | ⟨_, he⟩ := decode_row r hr ho.symm
    · have hw := (masked_eq_pattern_iff r.format w r.op).2 ⟨ho.symm, hc⟩
      exact absurd (by rw [hw, pattern_low_zero]) hz
    · exact ⟨_, he⟩

/-- Settles O5: such a word is rejected, and a step on a rejected word only answers (15, 0). -/
theorem illegalWordHasNoEffect : Obligations.IllegalWordHasNoEffect := by
  intro s w rest hs h
  obtain ⟨e, he⟩ := decode_of_illegal h
  rw [Machine.step_facing hs]
  simp only [Machine.runAction, Machine.runCommand, he]
  rfl

/-- The opcodes R101 reserves. -/
abbrev ReservedOpcode (op : Nat) : Prop :=
  op = 0x02 ∨ op = 0x17 ∨ (0x08 ≤ op ∧ op ≤ 0x0F) ∨ (0x18 ≤ op ∧ op ≤ 0x1F) ∨ (0x22 ≤ op ∧ op ≤ 0x2F) ∨
    (0x37 ≤ op ∧ op ≤ 0x3F) ∨ (0x43 ≤ op ∧ op ≤ 0x7E) ∨ 0x80 ≤ op

theorem opcodeMap_not_reserved : ∀ r ∈ opcodeMap, ¬ ReservedOpcode r.op.toNat := by decide

/-- Settles O6: no row has a reserved opcode. -/
theorem reservedOpcodesAreRejected : Obligations.ReservedOpcodesAreRejected := by
  intro w h
  refine decode_of_reserved fun r hr ho => opcodeMap_not_reserved r hr ?_
  rw [ho]
  exact h

/-- Settles O1: eighteen fixed words, evaluated. -/
theorem workedEncodingsDecode : Obligations.WorkedEncodingsDecode := by
  unfold Obligations.WorkedEncodingsDecode
  decide

end Sys2Proof
end

section
/-! Script lines (R102): the line of a command is well formed because the types of its operands are the widths of R94, and
the assembler reads the operands back. -/

namespace Sys2Proof

theorem byte_toNat_lt (d : Byte) : d.toNat < 256 := d.isLt

theorem addr_toNat_lt (a : Addr) : a.toNat < 65536 := a.isLt

@[simp] theorem byteOperand_toNat (d : Byte) : byteOperand d.toNat = d := by simp [byteOperand]

/-- The line of a command names its row of the opcode map, with as many operands as the row bounds, each below its bound. -/
theorem wellFormed_disassemble (i : Instr) : (disassemble i).wellFormed = true := by
  cases i <;> simp [Line.wellFormed, disassemble, opcodeMap, opcodeMapPorts, byte_toNat_lt, addr_toNat_lt]

/-- The assembler's arm for a command's mnemonic puts the operands back. -/
theorem assemble_disassemble (i : Instr) : assemble (disassemble i) = some i := by
  rw [assemble, if_pos (wellFormed_disassemble i)]
  cases i with
  | enq a d => simp only [disassemble, byteOperand_toNat, BitVec.ofNat_toNat, BitVec.setWidth_eq]
  | _ => simp only [disassemble, byteOperand_toNat]

/-- Settles O8. -/
theorem scriptLineOfCommandAssembles : Obligations.ScriptLineOfCommandAssembles := fun i =>
  ⟨wellFormed_disassemble i, assemble_disassemble i⟩

end Sys2Proof
end

section
/-! What a host command always does (R90, R96): one response of an allowed code, inputs and parameters kept (O37). So a
word that decodes runs its command (O9), and a run over words and events never stops (O44). -/

namespace Sys2Proof.Machine

/-- A command leaves the parameters. -/
theorem CommandEffect.cfg_eq {s t : State} {i : Instr} (h : CommandEffect s i t) : t.cfg = s.cfg := by
  cases h <;> simp

/-- A command answers once: a value only with code 0, else 2 to 5 with data 0 (R96). -/
theorem CommandEffect.answers {s t : State} {i : Instr} (h : CommandEffect s i t) :
    ∃ (c : RespCode) (v : RespData), t.resps = ⟨c, v⟩ :: s.resps ∧
      (c = 0#4 ∨ c = 2#4 ∨ c = 3#4 ∨ c = 4#4 ∨ c = 5#4) ∧ (c ≠ 0#4 → v = 0#32) := by
  cases h with
  | read i d => exact ⟨0#4, d, rfl, by decide, by simp⟩
  | rdstatus => exact ⟨0#4, _, rfl, by decide, by simp⟩
  | wrdata d => exact ⟨0#4, 0#32, by simp, by decide, by simp⟩
  | _ => exact ⟨_, 0#32, rfl, by decide, fun _ => rfl⟩

/-- Settles O37: a command has a next state (`exec_eq_next`), and it is one of those of `CommandEffect`. -/
theorem everyCommandAnswersOnce : Obligations.EveryCommandAnswersOnce := by
  intro i s
  obtain ⟨t, ht⟩ := exec_eq_next i s
  have he := exec_effect ht
  obtain ⟨c, v, hr, hc, hv⟩ := he.answers
  exact ⟨t, c, v, ht, hr, hc, hv, he.inputs_eq, he.cfg_eq⟩

/-- A transition other than an FSC step has a next state and leaves the inputs to come and the parameters. -/
theorem runAction_eq_next {a : Action} (ha : ∀ k, a ≠ .fsc k) (s : State) :
    ∃ t, runAction a s = .next t ∧ t.inputs = s.inputs ∧ t.cfg = s.cfg := by
  cases a with
  | host w =>
    cases hd : decode w with
    | ok i =>
      obtain ⟨t, ht⟩ := exec_eq_next i s
      have he := exec_effect ht
      exact ⟨t, by simp only [runAction, runCommand, hd, ht], he.inputs_eq, he.cfg_eq⟩
    | error e => exact ⟨s.illegal, by simp only [runAction, runCommand, hd], rfl, rfl⟩
  | video e => cases e <;> exact ⟨_, rfl, rfl, rfl⟩
  | supervisor e => cases e <;> exact ⟨_, rfl, rfl, rfl⟩
  | fsc k => exact absurd rfl (ha k)

/-- Settles O44, by induction on the inputs: each of them has a next state, which faces the next one. -/
theorem runsOfCommandsAndEventsComplete : Obligations.RunsOfCommandsAndEventsComplete := by
  intro s as rest hv hi ha
  induction as generalizing s with
  | nil => exact ⟨s, rfl, hi, rfl⟩
  | cons a as ih =>
    obtain ⟨u, hu, hui, huc⟩ := runAction_eq_next (ha a List.mem_cons_self) { s with inputs := as ++ rest }
    have hs : step s = .next u := (step_facing ⟨hv, hi⟩).trans hu
    obtain ⟨t, ht, hti, htc⟩ := ih u (huc ▸ hv) hui fun b hb => ha b (List.mem_cons_of_mem a hb)
    exact ⟨t, (run_of_next Sys2Proof.core hs).trans ht, hti, htc.trans huc⟩

/-- Every 48-bit word is the table word of its own number (log entry 12). -/
theorem tableWord_toNat (w : CmdWord) : tableWord 48 w.toNat = some w := by
  have hw : w.toNat % 2 ^ 48 = w.toNat := Nat.mod_eq_of_lt w.isLt
  rw [tableWord, hw, if_pos w.isLt, BitVec.ofNat_toNat, BitVec.setWidth_eq]

theorem withFetchWord_toNat (s : State) (w : CmdWord) : s.withFetchWord 48 w.toNat = s.pushWord w := by
  simp only [State.withFetchWord, placeTableWord, tableWord_toNat]

/-- Settles O9: `step_command`, and the placed word is consumed again. -/
theorem stepRunsTheDecodedCommand : Obligations.StepRunsTheDecodedCommand := by
  refine ⟨fun s w rest i hs hd => step_command hs hd, fun s w i hv hd => ?_⟩
  rw [withFetchWord_toNat]
  exact step_command (rest := s.inputs) ⟨hv, rfl⟩ hd

end Sys2Proof.Machine
end


section
/-! The pseudo-commands SETSCROLL and SETADDR (R103): `RDSTATUS` clears `W`, so the two writes after it are the first and
the second half of their pair. -/

namespace Sys2Proof.Machine

/-- A step on an issued command is its effect. -/
theorem step_issue {s : State} {i : Instr} {rest : List Action} (hv : s.cfg.Valid) (hi : s.inputs = issue i :: rest) :
    step s = exec i { s with inputs := rest } :=
  step_command ⟨hv, hi⟩ (decode_encode i)

/-- A run whose first input is an issued command goes on from the command's next state. -/
theorem run_issue {s u : State} {i : Instr} {rest : List Action} {n : Nat} (hv : s.cfg.Valid)
    (hi : s.inputs = issue i :: rest) (h : exec i { s with inputs := rest } = .next u) :
    core.run (n + 1) s = core.run n u :=
  run_of_next core ((step_issue hv hi).trans h)

/-- An address is made of its two halves. -/
theorem addr_ext {a b : Addr} (hh : a.extractLsb' 8 8 = b.extractLsb' 8 8) (hl : a.extractLsb' 0 8 = b.extractLsb' 0 8) :
    a = b := by
  refine BitVec.eq_of_getLsbD_eq fun i hi => ?_
  by_cases h8 : i < 8
  · simpa [h8] using congrArg (·.getLsbD i) hl
  · simpa [show i - 8 < 8 by omega, show 8 + (i - 8) = i by omega] using congrArg (·.getLsbD (i - 8)) hh

/-- The two halves of an address, written one after the other, replace the address (R115). -/
theorem withLow_withHigh (a b : Addr) :
    withLow (withHigh b (a.extractLsb' 8 8)) (a.extractLsb' 0 8) = a := by
  refine addr_ext ?_ (extract_withLow _ _).2
  rw [(extract_withLow _ _).1, (extract_withHigh _ _).1]

/-- `RDSTATUS` and what a run goes on from after it (R119). -/
theorem run_rdstatus {s : State} {rest : List Action} (n : Nat) (hv : s.cfg.Valid)
    (hi : s.inputs = issue .rdstatus :: rest) :
    core.run (n + 1) s = core.run n { s with
      status := writeFlag s.status vblankBit false, w := false, inputs := rest,
      resps := ⟨0#4, byteData s.statusByte⟩ :: s.resps } :=
  run_issue hv hi rfl

/-- From `W = 0`, two scroll writes write the pair (R114). -/
theorem run_scroll_pair {s : State} {x y : Byte} {rest : List Action} (hv : s.cfg.Valid) (hw : s.w = false)
    (hi : s.inputs = issue (.wrscroll x) :: issue (.wrscroll y) :: rest) :
    core.run 2 s = .next { s with
      scrollX := x, scrollY := y, w := false, inputs := rest, resps := ⟨0#4, 0#32⟩ :: ⟨0#4, 0#32⟩ :: s.resps } := by
  have h1 : exec (.wrscroll x) { s with inputs := issue (.wrscroll y) :: rest } = .next { s with
      scrollX := x, w := true, inputs := issue (.wrscroll y) :: rest, resps := ⟨0#4, 0#32⟩ :: s.resps } := by
    simp only [exec, execWrscroll, hw]
    rfl
  rw [run_issue hv hi h1]
  exact run_issue hv rfl rfl

/-- From `W = 0`, two address writes write the high and the low byte (R115). -/
theorem run_addr_pair {s : State} {hi lo : Byte} {rest : List Action} (hv : s.cfg.Valid) (hw : s.w = false)
    (hin : s.inputs = issue (.wraddr hi) :: issue (.wraddr lo) :: rest) :
    core.run 2 s = .next { s with
      vaddr := withLow (withHigh s.vaddr hi) lo, w := false, inputs := rest,
      resps := ⟨0#4, 0#32⟩ :: ⟨0#4, 0#32⟩ :: s.resps } := by
  have h1 : exec (.wraddr hi) { s with inputs := issue (.wraddr lo) :: rest } = .next { s with
      vaddr := withHigh s.vaddr hi, w := true, inputs := issue (.wraddr lo) :: rest,
      resps := ⟨0#4, 0#32⟩ :: s.resps } := by
    simp only [exec, execWraddr, hw]
    rfl
  rw [run_issue hv hin h1]
  exact run_issue hv rfl rfl

/-- Settles O48: `RDSTATUS` leaves `W = 0` and the vblank flag clear, and the two writes are the halves of their pair. -/
theorem pseudoWritesAreCorrectFromAnyToggle : Obligations.PseudoWritesAreCorrectFromAnyToggle := by
  intro s x y a rest hv
  have hvb := getLsbD_clear_vblank s.status 7
  refine ⟨fun hi => ?_, fun hi => ?_⟩
  · exact ⟨_, (run_rdstatus 2 hv hi).trans (run_scroll_pair hv rfl rfl), rfl, rfl, rfl, hvb, rfl⟩
  · exact ⟨_, (run_rdstatus 2 hv hi).trans (run_addr_pair hv rfl rfl), withLow_withHigh a s.vaddr, rfl, hvb, rfl, rfl⟩

end Sys2Proof.Machine
end

section
/-! The port commands one by one (R110 to R123): the exact next state of each, and its word. -/

namespace Sys2Proof

/-- A word of format B, with its operand in the low byte (R91). -/
theorem wordB_eq (op d : Byte) : wordB op d = op.setWidth 48 <<< 40 ||| d.setWidth 48 := by
  rw [wordB, field, field, BitVec.shiftLeft_zero]

end Sys2Proof

namespace Sys2Proof.Machine

/-- A first scroll write goes to X (R114). -/
theorem exec_wrscroll_first (d : Byte) {s : State} (hw : s.w = false) :
    exec (.wrscroll d) s = .next { s with scrollX := d, w := true, resps := ⟨0#4, 0#32⟩ :: s.resps } :=
  if_neg (Bool.eq_false_iff.1 hw)

/-- A second scroll write goes to Y (R114). -/
theorem exec_wrscroll_second (d : Byte) {s : State} (hw : s.w = true) :
    exec (.wrscroll d) s = .next { s with scrollY := d, w := false, resps := ⟨0#4, 0#32⟩ :: s.resps } :=
  if_pos hw

/-- A first address write replaces the high byte (R115). -/
theorem exec_wraddr_first (d : Byte) {s : State} (hw : s.w = false) : exec (.wraddr d) s =
    .next { s with vaddr := withHigh s.vaddr d, w := true, resps := ⟨0#4, 0#32⟩ :: s.resps } :=
  if_neg (Bool.eq_false_iff.1 hw)

/-- A second address write replaces the low byte (R115). -/
theorem exec_wraddr_second (d : Byte) {s : State} (hw : s.w = true) : exec (.wraddr d) s =
    .next { s with vaddr := withLow s.vaddr d, w := false, resps := ⟨0#4, 0#32⟩ :: s.resps } :=
  if_pos hw

/-- Settles O24: the two cases of the toggle. -/
theorem scrollWriteFollowsTheToggle : Obligations.ScrollWriteFollowsTheToggle :=
  fun d _ => ⟨exec_wrscroll_first d, exec_wrscroll_second d⟩

/-- Settles O25: the half that `W` picks is replaced and the other one kept (`extract_withHigh`, `extract_withLow`). -/
theorem addressWriteFollowsTheToggle : Obligations.AddressWriteFollowsTheToggle := by
  intro d s
  cases hw : s.w with
  | false => exact ⟨_, exec_wraddr_first d hw, fun _ => extract_withHigh s.vaddr d, nofun⟩
  | true => exact ⟨_, exec_wraddr_second d hw, nofun, fun _ => (extract_withLow s.vaddr d).symm⟩

/-- The data port writes `VADDR` and the two memories, nothing else (R64). -/
theorem dataPortWrite_eq (s : State) (b : Byte) : s.dataPortWrite b = { s with
    vaddr := s.bump s.vaddr, ntMem := (s.vWrite s.vaddr b).ntMem, atMem := (s.vWrite s.vaddr b).atMem } := by
  unfold State.dataPortWrite
  obtain ⟨_, h⟩ | ⟨_, _, h⟩ | ⟨_, _, h⟩ := vWrite_cases s s.vaddr b <;> rw [h]

/-- What a VRAM read sees after a data-port write: the byte at the old `VADDR` if it is backed (R62, R64). -/
theorem vRead_dataPortWrite {s : State} (hv : s.cfg.Valid) (b : Byte) (a : Addr) :
    (s.dataPortWrite b).vRead a = if a = s.vaddr ∧ s.backed a = true then some b else s.vRead a := by
  by_cases ha : a = s.vaddr
  · subst ha
    have e : (s.dataPortWrite b).vRead s.vaddr = (s.vWrite s.vaddr b).vRead s.vaddr := vRead_congr rfl rfl rfl rfl _
    simp only [e, vRead_vWrite s hv, State.backed, Bool.or_eq_true, true_and]
  · rw [vRead_dataPortWrite_of_ne hv b ha, if_neg fun h => ha h.1]

/-- A store writes one of the two memories at most (R62). -/
theorem vWrite_one_memory (s : State) (a : Addr) (b : Byte) :
    (s.vWrite a b).ntMem = s.ntMem ∨ (s.vWrite a b).atMem = s.atMem := by
  obtain ⟨_, h⟩ | ⟨_, _, h⟩ | ⟨_, _, h⟩ := vWrite_cases s a b <;> simp [h]

/-- A store at an address that is not backed has no effect (R62). -/
theorem vWrite_of_unbacked {s : State} {a : Addr} (h : s.backed a = false) (b : Byte) : s.vWrite a b = s := by
  obtain ⟨hn, ha⟩ := Bool.or_eq_false_iff.1 h
  simp [State.vWrite, hn, ha]

/-- Settles O26: `exec` is the data-port write, whatever the flush window, and its lemmas say what that changes. -/
theorem dataPortStoresThenIncrements : Obligations.DataPortStoresThenIncrements := by
  intro d s hv
  refine ⟨_, rfl, ?_, ?_, vRead_dataPortWrite hv d, vWrite_one_memory s s.vaddr d, fun hb => ?_, wordB_eq 0x07#8 d⟩
  · rw [dataPortWrite_eq]
    rfl
  · exact (BitVec.toNat_ofNat ..).trans (Nat.mod_mod _ 0x10000)
  · simp [vWrite_of_unbacked hb]

/-- Settles O29: the flag cleared is bit 7 of STATUS (`getLsbD_clear_vblank`). -/
theorem statusReadClearsVblankAndToggle : Obligations.StatusReadClearsVblankAndToggle := by
  refine ⟨fun s => ⟨writeFlag s.status vblankBit false, rfl, ?_, fun k hk => ?_⟩, rfl⟩
  · rw [getLsbD_clear_vblank, if_pos rfl]
  · rw [getLsbD_clear_vblank, if_neg hk]

/-- Settles O21: each of the four meanings is the update of one register and the response (0, 0). -/
theorem controlWritesOverwriteUnconditionally : Obligations.ControlWritesOverwriteUnconditionally :=
  fun _ _ => ⟨rfl, rfl, rfl, rfl⟩

/-- Settles O23: the meanings update or read one cell, and the words of format B are those of `wordB_eq`. -/
theorem oamPortsArePlainCells : Obligations.OamPortsArePlainCells :=
  ⟨fun d _ => ⟨rfl, rfl, rfl, rfl, wordB_eq 0x03#8 d, wordB_eq 0x04#8 d⟩, rfl, rfl, rfl⟩

/-- A pair as response data is its two bytes one after the other, zero-extended (R122). -/
theorem pairData_eq (hi lo : Byte) : pairData hi lo = (hi ++ lo).setWidth 32 := by
  refine BitVec.eq_of_getLsbD_eq fun i h => ?_
  simp only [pairData, dataField, BitVec.shiftLeft_zero, BitVec.getLsbD_or, BitVec.getLsbD_shiftLeft,
    BitVec.getLsbD_setWidth, BitVec.getLsbD_append]
  by_cases h8 : i < 8
  · simp [h, h8]
  · simp [h, h8, show i - 8 < 32 by omega, BitVec.getLsbD_of_ge lo i (by omega)]

/-- Settles O28: the pair is packed by `pairData_eq`, the other three values are the register. -/
theorem portReadsReturnTheRegister : Obligations.PortReadsReturnTheRegister := by
  refine ⟨fun s => ⟨rfl, rfl, ?_, rfl⟩, rfl, rfl, rfl, rfl⟩
  rw [← pairData_eq]
  rfl

end Sys2Proof.Machine
end

section
/-! The toggle that the scroll and the address port share (R114, R115, R125), in runs of issued commands. -/

namespace Sys2Proof.Machine

/-- Settles O45: the first write sets the toggle that the second one, of the other port, reads. -/
theorem bothPortsShareOneToggle : Obligations.BothPortsShareOneToggle := by
  intro s a b rest hv hw
  refine ⟨fun hi => ?_, fun hi => ?_⟩
  · have h1 := run_issue (n := 1) hv hi (exec_wrscroll_first a hw)
    have h2 := h1.trans (run_issue hv rfl (exec_wraddr_second b rfl))
    obtain ⟨hh, hl⟩ := extract_withLow s.vaddr b
    exact ⟨_, h2, rfl, hl, hh, rfl, rfl⟩
  · have h1 := run_issue (n := 1) hv hi (exec_wraddr_first a hw)
    have h2 := h1.trans (run_issue hv rfl (exec_wrscroll_second b rfl))
    obtain ⟨hh, hl⟩ := extract_withHigh s.vaddr a
    exact ⟨_, h2, hh, rfl, hl, rfl, rfl⟩

/-- Settles O47: after the status read `W = 0`, so the second write is a first write again. -/
theorem statusReadAbandonsTheHalfPair : Obligations.StatusReadAbandonsTheHalfPair := by
  intro s a b rest hv hw
  refine ⟨fun hi => ?_, fun hi => ?_⟩
  · have h1 := run_issue (n := 2) hv hi (exec_wrscroll_first a hw)
    have h2 := h1.trans (run_rdstatus 1 hv rfl)
    exact ⟨_, h2.trans (run_issue hv rfl (exec_wrscroll_first b rfl)), rfl, rfl, rfl⟩
  · have h1 := run_issue (n := 2) hv hi (exec_wraddr_first a hw)
    have h2 := h1.trans (run_rdstatus 1 hv rfl)
    have h3 := h2.trans (run_issue hv rfl (exec_wraddr_first b rfl))
    obtain ⟨hh, hl⟩ := extract_withHigh (withHigh s.vaddr a) b
    exact ⟨_, h3, hh, hl.trans (extract_withHigh s.vaddr a).2, rfl⟩

/-- From `W = 0`, a pair of scroll writes in front of a run writes the pair and leaves `W = 0` (R114). -/
theorem run_scroll_pair_then {s : State} {x y : Byte} {rest : List Action} (n : Nat) (hv : s.cfg.Valid)
    (hw : s.w = false) (hi : s.inputs = issue (.wrscroll x) :: issue (.wrscroll y) :: rest) :
    core.run (n + 2) s = core.run n { s with
      scrollX := x, scrollY := y, inputs := rest, resps := ⟨0#4, 0#32⟩ :: ⟨0#4, 0#32⟩ :: s.resps } := by
  have h1 := run_issue (n := n + 1) hv hi (exec_wrscroll_first x hw)
  have h2 := h1.trans (run_issue hv rfl (exec_wrscroll_second y rfl))
  rwa [← hw] at h2

/-- From `W = 0`, pairs of scroll writes leave the last of them as (X, Y), if there is one, and one response a write
(R114). -/
theorem run_scrollWrites {s : State} {ps : List (Byte × Byte)} {rest : List Action} (hv : s.cfg.Valid)
    (hw : s.w = false) (hi : s.inputs = scrollWrites ps ++ rest) :
    core.run (2 * ps.length) s = .next { s with
      scrollX := (ps.getLastD (s.scrollX, s.scrollY)).1, scrollY := (ps.getLastD (s.scrollX, s.scrollY)).2,
      inputs := rest, resps := List.replicate (2 * ps.length) ⟨0#4, 0#32⟩ ++ s.resps } := by
  induction ps generalizing s with
  | nil =>
    rw [← show s.inputs = rest from hi]
    rfl
  | cons p ps ih =>
    have hr (r : Resp) : List.replicate (2 * (p :: ps).length) r ++ s.resps =
        List.replicate (2 * ps.length) r ++ r :: r :: s.resps := by
      simp [Nat.mul_succ, List.replicate_succ']
    rw [List.getLastD_cons, hr]
    exact (run_scroll_pair_then (2 * ps.length) hv hw hi).trans (ih hv hw rfl)

/-- Settles O46, from `run_scrollWrites`. -/
theorem scrollPairIsTheLastTwoWrites : Obligations.ScrollPairIsTheLastTwoWrites := by
  intro s ps x y rest hv hw hi
  have h := run_scrollWrites hv hw hi
  rw [List.length_append, List.getLastD_concat] at h
  exact ⟨_, h, rfl, by simp; omega⟩

end Sys2Proof.Machine
end

section
/-! The update queue (R140 to R145): what `ENQ` and `RDQLEN` do, what the flush leaves, and the checked flush of a tick. -/

namespace Sys2Proof

/-- A word of format Q, with the data byte in its low byte and the address above it (R91). -/
theorem wordQ_eq (op : Byte) (a : Addr) (d : Byte) :
    wordQ op a d = op.setWidth 48 <<< 40 ||| a.setWidth 48 <<< 8 ||| d.setWidth 48 := by
  rw [wordQ, field, field, field, BitVec.shiftLeft_zero]

end Sys2Proof

namespace Sys2Proof.Machine

/-- Abandoning a tick leaves `FSC` as it was if no tick is running (R182). -/
theorem abandonTick_eq (f : Fsc) : abandonTick f = if f = .runningTick then .waitingForSync else f := by
  cases f <;> rfl

/-- `ENQ` on a queue that is not full (R140). -/
theorem exec_enq_append (a : Addr) (d : Byte) {s : State} (h : s.queue.length ≠ s.cfg.qcap) : exec (.enq a d) s =
    .next { s with queue := s.queue ++ [⟨a, d⟩], resps := ⟨0#4, 0#32⟩ :: s.resps } :=
  if_neg h

/-- `ENQ` on a full queue is violation 3 (R140). -/
theorem exec_enq_full (a : Addr) (d : Byte) {s : State} (h : s.queue.length = s.cfg.qcap) : exec (.enq a d) s =
    .next ((s.raise .queueOverflow).respond 3#4 0#32) :=
  if_pos h

/-- Settles O30: the two branches of `ENQ`, the second one spelled out as R182 has it. -/
theorem enqueueAppendsOrReportsOverflow : Obligations.EnqueueAppendsOrReportsOverflow := by
  intro a d s
  refine ⟨exec_enq_append a d, fun h => ?_, wordQ_eq 0x20#8 a d⟩
  rw [exec_enq_full a d h, ← abandonTick_eq]
  rfl

/-- Settles O32: the meaning is the answer with the length and nothing else. -/
theorem queueLengthReadReturnsQlen : Obligations.QueueLengthReadReturnsQlen := fun _ => rfl

/-- The flush writes the queue, `VADDR` and the two memories, nothing else (R143). -/
theorem flush_frame (s : State) :
    s.flush = { s with queue := [], vaddr := s.flush.vaddr, ntMem := s.flush.ntMem, atMem := s.flush.atMem } := by
  have eta : s.flush = { s.flush with queue := s.flush.queue } := rfl
  rw [eta]
  simp

/-- A flush finds nothing to do in an empty queue (R143). -/
theorem flush_of_empty {s : State} (h : s.queue = []) : s.flush = s := by
  rw [State.flush, h, State.applyEntries, List.foldl_nil, ← h]

/-- What a VRAM read sees after a flush: the newest entry for the address if that is backed and has one (R143). -/
theorem vRead_flush {s : State} (hv : s.cfg.Valid) (a : Addr) : s.flush.vRead a =
    if s.backed a = true ∧ (newestFor s.queue a).isSome = true then newestFor s.queue a else s.vRead a := by
  have e : s.flush.vRead a = (s.applyEntries s.queue).vRead a := vRead_congr rfl rfl rfl rfl a
  rw [e, vRead_applyEntries s hv]
  change (if s.backed a = true then (newestFor s.queue a).or (s.vRead a) else s.vRead a) = _
  cases s.backed a with
  | false => simp
  | true => cases newestFor s.queue a <;> simp

/-- `VADDR` after a flush: the last entry's address and the increment (R143). -/
theorem vaddr_flush {s : State} {es : List Entry} {e : Entry} (h : s.queue = es ++ [e]) :
    s.flush.vaddr = s.bump e.addr := by
  rw [flush_vaddr, h, applyEntries_vaddr_append]

/-- Settles O15: the lemmas on the flush above; a second flush finds an empty queue. -/
theorem flushAppliesEveryEntryInOrder : Obligations.FlushAppliesEveryEntryInOrder := fun s hv =>
  ⟨flush_frame s, vRead_flush hv, fun _ _ => vaddr_flush, flush_of_empty, flush_of_empty (flush_queue s)⟩

/-- `FlushLegal()` written out (R144). -/
theorem flushLegal_iff (s : State) : s.flushLegal = true ↔
    s.cfg.flushPolicy = .always ∨ s.ctrl2 &&& s.cfg.rendMask = 0#8 ∨ s.status.getLsbD 7 = true := by
  unfold State.flushLegal
  split
  · next hp => simp [hp]
  · next hp => simp [hp, State.renderingOff, State.vblank]

/-- A tick with a flush that has something to do and is not legal (R145). -/
theorem enterTick_of_illegal {s : State} (hq : s.queue ≠ []) (hl : s.flushLegal = false) : s.enterTick = { s with
    pend := false, err := s.err ||| 0x01#8, lastErr := 1#4, fsc := abandonTick s.fsc } := by
  obtain ⟨_, _, ht⟩ | ⟨h | h, _⟩ := enterTick_cases s
  · exact ht
  · exact absurd h hq
  · exact absurd (h.symm.trans hl) (by decide)

/-- A tick with a flush that has nothing to do or is legal (R145). -/
theorem enterTick_of_legal {s : State} (h : s.queue = [] ∨ s.flushLegal = true) :
    s.enterTick = { s.flush with pend := false, fsc := .runningTick } := by
  obtain ⟨hq, hl, _⟩ | ⟨_, ht⟩ := enterTick_cases s
  · exact absurd h (by simp [hq, hl])
  · exact ht

/-- An enabled `TickStart` enters the tick (R195). -/
theorem step_tickStart {s : State} {rest : List Action} (h : s.Facing (.fsc .tickStart) rest)
    (hf : s.fsc = .waitingForSync) (hp : s.pend = true) (hs : s.shutReq = false) :
    step s = .next ({ s with inputs := rest } : State).enterTick := by
  have he : ({ s with inputs := rest } : State).tickStartEnabled = true := (tickStartEnabled_iff _).2 ⟨hf, hp, hs⟩
  rw [step_facing h]
  exact if_pos he

/-- An enabled `TickStart` whose flush is not refused flushes the queue and starts the callback (R145, R195). -/
theorem step_tickStart_of_legal {s : State} {rest : List Action} (h : s.Facing (.fsc .tickStart) rest)
    (hf : s.fsc = .waitingForSync) (hp : s.pend = true) (hs : s.shutReq = false)
    (hl : s.queue = [] ∨ s.flushLegal = true) :
    step s = .next { s.flush with inputs := rest, pend := false, fsc := .runningTick } := by
  have ht : ({ s with inputs := rest } : State).enterTick = _ := enterTick_of_legal hl
  rw [step_tickStart h hf hp hs, ht, flush_withInputs]

/-- Settles O17: the illegal flush by `enterTick_of_illegal`, the legal and the empty one by `step_tickStart_of_legal`. -/
theorem illegalFlushAbandonsTheTick : Obligations.IllegalFlushAbandonsTheTick := by
  refine ⟨fun s rest h hf hp hs hq hpol hrend hvb => ?_, fun s rest h hf hp hs _ hl => ?_,
    fun s rest h hf hp hs hq => ?_⟩
  · have hl : s.flushLegal = false := by
      rw [← Bool.not_eq_true, flushLegal_iff, hvb]
      simp [hpol, hrend]
    have ht : ({ s with inputs := rest } : State).enterTick = _ := enterTick_of_illegal hq hl
    rw [step_tickStart h hf hp hs, ht, hf]
    rfl
  · exact step_tickStart_of_legal h hf hp hs (.inr ((flushLegal_iff s).2 hl))
  · have ht := step_tickStart_of_legal h hf hp hs (.inl hq)
    rwa [flush_of_empty hq] at ht

end Sys2Proof.Machine
end

section
/-! The frame-sync commands (R150 to R156): what `SETNCTRL2`, `SETNSCROLL` and `CBRET` do, and the fields that `RDERR` and
`RDFSC` return. -/

namespace Sys2Proof

/-- A word of format P, with `lo` in its low byte and `hi` above it (R91). -/
theorem wordP_eq (op hi lo : Byte) :
    wordP op hi lo = op.setWidth 48 <<< 40 ||| hi.setWidth 48 <<< 8 ||| lo.setWidth 48 := by
  rw [wordP, field, field, field, BitVec.shiftLeft_zero]

end Sys2Proof

namespace Sys2Proof.Machine

/-- Settles O22: each of the two meanings is the update of its shadow and the response (0, 0). -/
theorem shadowWritesLeaveLiveRegistersAlone : Obligations.ShadowWritesLeaveLiveRegistersAlone :=
  fun d x y _ => ⟨rfl, rfl, wordB_eq 0x31#8 d, wordP_eq 0x32#8 x y⟩

/-- The write-back and the return, with `SCRDIS` choosing for CTRL2 and the scroll pair (R154). -/
theorem leaveTick_eq (s : State) : s.leaveTick = { s with
    ctrl1 := s.nextCtrl1
    ctrl2 := if s.scrdis = true then s.ctrl2 else s.nextCtrl2
    scrollX := if s.scrdis = true then s.scrollX else s.nextScrollX
    scrollY := if s.scrdis = true then s.scrollY else s.nextScrollY
    fsc := .waitingForSync } := by
  unfold State.leaveTick State.writeBack
  split <;> rfl

/-- `CBRET` outside a tick is NO_TICK (R154). -/
theorem exec_cbret_noTick (d : Byte) {s : State} (hf : s.fsc ≠ .runningTick) :
    exec (.cbret d) s = .next (s.respond 5#4 0#32) :=
  if_pos hf

/-- `CBRET` in a tick whose callback failed is violation 4 (R154). -/
theorem exec_cbret_failed {d : Byte} {s : State} (hf : s.fsc = .runningTick) (hd : flagOperand d = true) :
    exec (.cbret d) s = .next ((s.raise .callbackFailed).respond 4#4 0#32) :=
  (if_neg (not_not.2 hf)).trans (if_pos hd)

/-- `CBRET` in a tick whose callback ended well leaves the tick (R154). -/
theorem exec_cbret_return {d : Byte} {s : State} (hf : s.fsc = .runningTick) (hd : flagOperand d = false) :
    exec (.cbret d) s = .next (s.leaveTick.respond 0#4 0#32) :=
  (if_neg (not_not.2 hf)).trans (if_neg (Bool.eq_false_iff.1 hd))

/-- Settles O33: the three cases of `CBRET`; the violation abandons the running tick, the return is `leaveTick_eq`. -/
theorem callbackReturnWritesBack : Obligations.CallbackReturnWritesBack := by
  refine fun d s => ⟨exec_cbret_noTick d, fun hf hd => ?_, fun hf hd => ?_, wordB_eq 0x34#8 d⟩
  · rw [exec_cbret_failed hf hd, State.raise, hf]
    rfl
  · rw [exec_cbret_return hf hd, leaveTick_eq]
    rfl

/-- A bit of a field of the response data (R96). -/
theorem getLsbD_dataField {n : Nat} (v : BitVec n) (lo i : Nat) :
    (dataField v lo).getLsbD i = (decide (i < 32) && decide (lo ≤ i) && v.getLsbD (i - lo)) := by
  by_cases h : lo ≤ i <;> by_cases h' : i < 32 <;> simp [dataField, h, h']

/-- A field of the response data reads back as what was put there. -/
theorem extract_dataField_same {n : Nat} (v : BitVec n) (lo : Nat) (h : lo + n ≤ 32) :
    (dataField v lo).extractLsb' lo n = v := by
  ext i hi
  rw [BitVec.getElem_extractLsb', getLsbD_dataField, decide_eq_true (by omega), decide_eq_true (by omega),
    Nat.add_sub_cancel_left, BitVec.getLsbD_eq_getElem hi]
  rfl

/-- Beside a field the response data is 0. -/
theorem extract_dataField_beside {n : Nat} (v : BitVec n) (lo start len : Nat) (h : start + len ≤ lo ∨ lo + n ≤ start) :
    (dataField v lo).extractLsb' start len = 0#len := by
  ext i hi
  rw [BitVec.getElem_extractLsb', getLsbD_dataField, BitVec.getElem_zero]
  obtain h | h := h
  · rw [decide_eq_false (p := lo ≤ start + i) (by omega), Bool.and_false, Bool.false_and]
  · rw [BitVec.getLsbD_of_ge v _ (by omega), Bool.and_false]

/-- The error log as response data: ERR, LASTERR above it, and zeros above that (R155). -/
theorem extract_errData (last : BitVec 4) (e : Byte) :
    (errData last e).extractLsb' 0 8 = e ∧ (errData last e).extractLsb' 8 4 = last ∧
      (errData last e).extractLsb' 12 20 = 0#20 := by
  simp [errData, BitVec.extractLsb'_or, extract_dataField_same, extract_dataField_beside]

/-- The controller's state as response data: the code of FSC, and zeros above bit 4 (R156). -/
theorem extract_fscData (scrdis shutReq pend : Bool) (f : Fsc) :
    (fscData scrdis shutReq pend f).extractLsb' 0 2 = fscCode f ∧
      (fscData scrdis shutReq pend f).extractLsb' 5 27 = 0#27 := by
  simp [fscData, BitVec.extractLsb'_or, extract_dataField_same, extract_dataField_beside]

/-- The controller's state as response data: PEND, SHUT_REQ and SCRDIS, a bit each (R156). -/
theorem getLsbD_fscData (scrdis shutReq pend : Bool) (f : Fsc) :
    (fscData scrdis shutReq pend f).getLsbD 2 = pend ∧ (fscData scrdis shutReq pend f).getLsbD 3 = shutReq ∧
      (fscData scrdis shutReq pend f).getLsbD 4 = scrdis := by
  simp only [fscData, BitVec.getLsbD_or, getLsbD_dataField]
  simp

/-- Settles O31: the two meanings answer `errData` and `fscData`, whose fields are read back by the lemmas above. -/
theorem readOutsPackTheirFields : Obligations.ReadOutsPackTheirFields := by
  refine ⟨fun s => ⟨_, rfl, extract_errData s.lastErr s.errByte⟩, fun s => ?_, rfl, rfl⟩
  obtain ⟨hc, hz⟩ := extract_fscData s.scrdis s.shutReq s.pend s.fsc
  obtain ⟨hp, hq, hs⟩ := getLsbD_fscData s.scrdis s.shutReq s.pend s.fsc
  have code {f : Fsc} (hf : s.fsc = f) := hc.trans (congrArg fscCode hf)
  exact ⟨_, rfl, code, code, code, hp, hq, hs, hz⟩

end Sys2Proof.Machine
end

section
/-! What moves the controller (R158, O19): a command moves FSC out of a running tick or resets it, a TickStart that flushes
enters the tick, and Stop leaves the loop. -/

namespace Sys2Proof.Machine

/-- The ways of R158 for a command to end a running tick, with the log they leave in `t`: `CBRET`, and the commands that
raise violation 3 or 2. -/
def EndsTick (t : State) (i : Instr) : Prop :=
  (∃ d, i = .cbret d) ∨
  ((∃ a d, i = .enq a d) ∧ t.lastErr = 3#4 ∧ t.err.getLsbD 2 = true) ∨
  (((∃ idx x y u v, i = .sprset idx x y u v) ∨ ∃ idx, i = .sprget idx) ∧ t.lastErr = 2#4 ∧ t.err.getLsbD 1 = true)

/-- A violation changes FSC only by abandoning the running tick (R182). -/
theorem abandonTick_change {f : Fsc} (h : abandonTick f ≠ f) : f = .runningTick ∧ abandonTick f = .waitingForSync := by
  cases f with
  | runningTick => exact ⟨rfl, rfl⟩
  | waitingForSync => exact absurd rfl h
  | stopped => exact absurd rfl h

/-- The log after a violation: LASTERR and its bit of ERR (R182). -/
theorem raise_logs (s : State) (v : Violation) (k : Nat) (hk : (violationBit v).getLsbD k = true) :
    (s.raise v).lastErr = violationNumber v ∧ (s.raise v).err.getLsbD k = true := by
  rw [raise_err, BitVec.getLsbD_or, hk, Bool.or_true]
  exact ⟨rfl, rfl⟩

/-- A command that changes FSC ends the running tick or is `REINIT`. -/
theorem CommandEffect.fsc_change {s t : State} {i : Instr} (h : CommandEffect s i t) (hne : t.fsc ≠ s.fsc) :
    (s.fsc = .runningTick ∧ t.fsc = .waitingForSync ∧ EndsTick t i) ∨ (i = .reinit ∧ t.fsc = .waitingForSync) := by
  cases h with
  | tickReturn d hf => exact .inl ⟨hf, rfl, .inl ⟨d, rfl⟩⟩
  | tickReturnDark d hf => exact .inl ⟨hf, rfl, .inl ⟨d, rfl⟩⟩
  | tickFailed d hf =>
    obtain ⟨_, ht⟩ := abandonTick_change hne
    exact .inl ⟨hf, ht, .inl ⟨d, rfl⟩⟩
  | enqFull a d =>
    obtain ⟨hf, ht⟩ := abandonTick_change hne
    exact .inl ⟨hf, ht, .inr (.inl ⟨⟨a, d, rfl⟩, raise_logs s .queueOverflow 2 rfl⟩)⟩
  | sprsetRange idx x y u v =>
    obtain ⟨hf, ht⟩ := abandonTick_change hne
    exact .inl ⟨hf, ht, .inr (.inr ⟨.inl ⟨idx, x, y, u, v, rfl⟩, raise_logs s .spriteIndexRange 1 rfl⟩)⟩
  | sprgetRange idx =>
    obtain ⟨hf, ht⟩ := abandonTick_change hne
    exact .inl ⟨hf, ht, .inr (.inr ⟨.inr ⟨idx, rfl⟩, raise_logs s .spriteIndexRange 1 rfl⟩)⟩
  | reinit => exact .inr ⟨rfl, rfl⟩
  | _ => simp at hne

/-- Settles O19, by the cases of a step: a command by `CommandEffect.fsc_change`, a TickStart by the two cases of the
checked flush, of which the refused one leaves FSC in `WaitingForSync`. -/
theorem fscMovesOnlyAlongItsTable : Obligations.FscMovesOnlyAlongItsTable := by
  intro s t h hne
  obtain ⟨_, ⟨w, rest, i, hi, hd, h⟩ | ⟨_, _, _, _, _, rfl⟩ | ⟨e, _, _, rfl⟩ | ⟨e, _, hi, rfl⟩ |
    ⟨rest, hi, hf, hp, hs, rfl⟩ | ⟨rest, hi, hf, hs, rfl⟩⟩ := step_cases h
  · have hc := command_of_decode hd
    obtain ⟨hf, ht, hcb | ⟨hq, hl⟩ | ⟨hx, hl⟩⟩ | ⟨rfl, ht⟩ := (exec_effect h).fsc_change hne
    · exact .inr (.inl ⟨hf, ht, .inl ⟨_, rest, i, hi, hc, hcb⟩⟩)
    · exact .inr (.inl ⟨hf, ht, .inr (.inl ⟨⟨_, rest, i, hi, hc, hq⟩, hl⟩)⟩)
    · exact .inr (.inl ⟨hf, ht, .inr (.inr ⟨⟨_, rest, i, hi, hc, hx⟩, hl⟩)⟩)
    · exact .inr (.inr (.inr ⟨ht, facingReset_of_reinit hi hc⟩))
  · exact absurd rfl hne
  · cases e <;> exact absurd rfl hne
  · cases e with
    | shutdown => exact absurd rfl hne
    | reset => exact .inr (.inr (.inr ⟨rfl, facingReset_of_event hi⟩))
  · obtain ⟨_, _, ht⟩ | ⟨_, ht⟩ := enterTick_cases { s with inputs := rest }
    · exact absurd (by rw [ht, hf]; rfl) hne
    · exact .inl ⟨hf, by rw [ht], hp, hs, hi.symm.imp And.left (⟨rest, ·⟩)⟩
  · exact .inr (.inr (.inl ⟨hf, rfl, hs, hi.symm.imp And.left (⟨rest, ·⟩)⟩))

end Sys2Proof.Machine
end

section
/-! The sprite table (R170 to R172): what `SPRSET`, `SPRCLR` and `SPRGET` do, each with its word. -/

namespace Sys2Proof

/-- A word of format I, with the index in the byte below the opcode (R91). -/
theorem wordI_eq (op idx : Byte) : wordI op idx = op.setWidth 48 <<< 40 ||| idx.setWidth 48 <<< 32 := rfl

/-- A word of format S, with the index below the opcode, the four fields below that, and attr in the low byte (R91). -/
theorem wordS_eq (op idx x y tile attr : Byte) : wordS op idx x y tile attr =
    op.setWidth 48 <<< 40 ||| idx.setWidth 48 <<< 32 ||| x.setWidth 48 <<< 24 ||| y.setWidth 48 <<< 16 |||
      tile.setWidth 48 <<< 8 ||| attr.setWidth 48 := by
  simp only [wordS, field, BitVec.shiftLeft_zero]

end Sys2Proof

namespace Sys2Proof.Machine

/-- A sprite index out of range is violation 2, spelled out as R182 has it. -/
theorem raise_spriteIndexRange_respond (s : State) : (s.raise .spriteIndexRange).respond 2#4 0#32 = { s with
    err := s.err ||| 0x02#8
    lastErr := 2#4
    fsc := if s.fsc = .runningTick then .waitingForSync else s.fsc
    resps := ⟨2#4, 0#32⟩ :: s.resps } := by
  rw [← abandonTick_eq]
  rfl

/-- `SPRSET` on an existing slot (R170). -/
theorem exec_sprset_inRange {idx : Byte} (x y u v : Byte) {s : State} (h : idx.toNat < s.cfg.nsprites) :
    exec (.sprset idx x y u v) s = .next ((s.setSlot idx.toNat x y u v).respond 0#4 0#32) :=
  if_pos ((slotExists_iff s idx).2 h)

/-- `SPRSET` on a slot that does not exist is violation 2 (R170). -/
theorem exec_sprset_outOfRange {idx : Byte} (x y u v : Byte) {s : State} (h : s.cfg.nsprites ≤ idx.toNat) :
    exec (.sprset idx x y u v) s = .next ((s.raise .spriteIndexRange).respond 2#4 0#32) :=
  if_neg (mt (slotExists_iff s idx).1 h.not_gt)

/-- `SPRGET` on an existing slot (R172). -/
theorem exec_sprget_inRange {idx : Byte} {s : State} (h : idx.toNat < s.cfg.nsprites) :
    exec (.sprget idx) s = .next (s.respond 0#4 (slotData (s.sprByte idx.toNat .x) (s.sprByte idx.toNat .y)
      (s.sprByte idx.toNat .tile) (s.sprByte idx.toNat .attr))) :=
  if_pos ((slotExists_iff s idx).2 h)

/-- `SPRGET` on a slot that does not exist is violation 2 (R172). -/
theorem exec_sprget_outOfRange {idx : Byte} {s : State} (h : s.cfg.nsprites ≤ idx.toNat) :
    exec (.sprget idx) s = .next ((s.raise .spriteIndexRange).respond 2#4 0#32) :=
  if_neg (mt (slotExists_iff s idx).1 h.not_gt)

/-- Settles O34: the fields after the write are those of `sprByte_setSlot`, the violation is the one of R182. -/
theorem spriteSetWritesOneSlot : Obligations.SpriteSetWritesOneSlot := by
  refine fun idx x y u v s => ⟨fun h => ?_, fun h => ?_, wordS_eq 0x40#8 idx x y u v⟩
  · have fields (j f) : ((s.setSlot idx.toNat x y u v).respond 0#4 0#32).sprByte j f = _ :=
      sprByte_setSlot s idx.toNat j x y u v f
    have written (f) := (fields idx.toNat f).trans (if_pos rfl)
    exact ⟨_, exec_sprset_inRange x y u v h, rfl, written .x, written .y, written .tile, written .attr,
      fun j f hj => (fields j f).trans (if_neg hj)⟩
  · rw [exec_sprset_outOfRange x y u v h, raise_spriteIndexRange_respond]

/-- The sprite fields after `SPRCLR`: the `y` of the slots from 1 to the last (R171). -/
theorem sprByte_of_sprclr {s t : State} (h : exec .sprclr s = .next t) (j : Nat) (f : SlotField) :
    t.sprByte j f = if 1 ≤ j ∧ j < s.cfg.nsprites ∧ f = .y then s.cfg.offscreenY else s.sprByte j f := by
  cases h
  have slots : (1 ≤ j ∧ j ≤ s.cfg.nsprites - 1 ∧ f = .y) ↔ (1 ≤ j ∧ j < s.cfg.nsprites ∧ f = .y) :=
    and_congr_right fun _ => and_congr_left' (by omega)
  exact (sprByte_hideSprites s j f).trans (if_congr slots rfl rfl)

/-- Settles O35: by `sprByte_of_sprclr`, and a second `SPRCLR` writes the sentinel over the sentinel. -/
theorem spriteClearHidesAllButSlotZero : Obligations.SpriteClearHidesAllButSlotZero := by
  refine ⟨fun s => ?_, rfl⟩
  have fields := sprByte_of_sprclr (s := s) rfl
  refine ⟨_, rfl, rfl, fields, fun u hu j f => ?_⟩
  rw [sprByte_of_sprclr hu, fields]
  exact ite_eq_right_iff.2 fun hy => (if_pos hy).symm

/-- A slot as response data: x, y, tile and attr from the high byte down (R172). -/
theorem extract_slotData (x y tile attr : Byte) :
    (slotData x y tile attr).extractLsb' 24 8 = x ∧ (slotData x y tile attr).extractLsb' 16 8 = y ∧
      (slotData x y tile attr).extractLsb' 8 8 = tile ∧ (slotData x y tile attr).extractLsb' 0 8 = attr := by
  simp [slotData, BitVec.extractLsb'_or, extract_dataField_same, extract_dataField_beside]

/-- Settles O36: the answer is `slotData`, whose bytes are read back by `extract_slotData`. -/
theorem spriteGetReturnsTheSlot : Obligations.SpriteGetReturnsTheSlot := by
  refine fun idx s => ⟨fun h => ⟨_, exec_sprget_inRange h, extract_slotData _ _ _ _⟩, fun h => ?_,
    wordI_eq 0x42#8 idx⟩
  rw [exec_sprget_outOfRange h, raise_spriteIndexRange_respond]

end Sys2Proof.Machine
end

section
/-! The events (R190 to R194) and the requests they leave: what the host may touch of them (O49), the raster flags (O11),
and how a step leaves `PEND` and `SHUT_REQ` (O12, O13). -/

namespace Sys2Proof.Machine

/-- A command leaves `PEND` and `SHUT_REQ` (R201), or it is `REINIT` and clears both (R157). -/
theorem CommandEffect.requests {s t : State} {i : Instr} (h : CommandEffect s i t) :
    (t.pend = s.pend ∧ t.shutReq = s.shutReq) ∨ (i = .reinit ∧ t.pend = false ∧ t.shutReq = false) := by
  cases h with
  | reinit => exact .inr ⟨rfl, rfl, rfl⟩
  | wrdata d => exact .inl (by simp)
  | _ => exact .inl ⟨rfl, rfl⟩

/-- A command other than `REINIT` writes STATUS by the vblank clear of `RDSTATUS` only (R119, R201). -/
theorem CommandEffect.status_eq {s t : State} {i : Instr} (h : CommandEffect s i t) (hi : i ≠ .reinit) :
    t.status = s.status ∨ (i = .rdstatus ∧ t.status = writeFlag s.status vblankBit false) := by
  cases h with
  | rdstatus => exact .inr ⟨rfl, rfl⟩
  | reinit => exact absurd rfl hi
  | wrdata d => exact .inl (by simp)
  | _ => exact .inl rfl

/-- A command other than `REINIT` takes nothing from the queue (R32, R201). -/
theorem CommandEffect.queue_eq {s t : State} {i : Instr} (h : CommandEffect s i t) (hi : i ≠ .reinit) :
    t.queue = s.queue ∨ ∃ e, t.queue = s.queue ++ [e] := by
  cases h with
  | enq a d => exact .inr ⟨⟨a, d⟩, rfl⟩
  | reinit => exact absurd rfl hi
  | wrdata d => exact .inl (by simp)
  | _ => exact .inl rfl

/-- Settles O49, from what a command leaves of the requests, STATUS and the queue. -/
theorem hostKeepsToItsRights : Obligations.HostKeepsToItsRights := by
  intro i s t hi h
  have he := exec_effect h
  obtain ⟨hp, hs⟩ := he.requests.resolve_right fun hr => hi hr.1
  refine ⟨hp, hs, ?_⟩
  obtain hst | ⟨hrd, hst⟩ := he.status_eq hi
  · exact ⟨fun k _ => by rw [hst], .inl (by rw [hst]), he.queue_eq hi⟩
  · have bits (k) : t.status.getLsbD k = _ := hst ▸ getLsbD_clear_vblank s.status k
    exact ⟨fun k hk => (bits k).trans (if_neg hk), .inr ⟨hrd, bits 7⟩, he.queue_eq hi⟩

/-- Settles O11: each of the two events is the write of its flag. -/
theorem rasterFlagEventsWriteOnlyTheirBit : Obligations.RasterFlagEventsWriteOnlyTheirBit := by
  intro s rest b
  have spr0 := getLsbD_writeFlag s.status 6 b
  have ovf := getLsbD_writeFlag s.status 5 b
  exact ⟨fun h => ⟨_, step_facing h, spr0 6, fun k hk => (spr0 k).trans (if_neg hk)⟩,
    fun h => ⟨_, step_facing h, ovf 5, fun k hk => (ovf k).trans (if_neg hk)⟩⟩

/-- The gate of R190 written out. -/
theorem nmiOpen_iff (s : State) :
    s.nmiOpen = true ↔ s.cfg.nmiGate = false ∨ s.ctrl1.getLsbD s.cfg.nmiBit = true := by
  simp [State.nmiOpen]

/-- `EV_VBLANK` in a step (R190). -/
theorem step_vblank {s : State} {rest : List Action} (h : s.Facing (.video .vblank) rest) :
    step s = .next { s with
      inputs := rest, status := writeFlag s.status vblankBit true, pend := s.pend || s.nmiOpen } :=
  step_facing h

/-- `EV_SHUTDOWN` in a step (R194). -/
theorem step_shutdown {s : State} {rest : List Action} (h : s.Facing (.supervisor .shutdown) rest) :
    step s = .next { s with inputs := rest, shutReq := true } :=
  step_facing h

/-- A second `EV_VBLANK` at once changes nothing more (R190). -/
theorem videoEvent_vblank_twice (s : State) :
    videoEvent .vblank (videoEvent .vblank s) = videoEvent .vblank s := by
  have hst : writeFlag (writeFlag s.status vblankBit true) vblankBit true = writeFlag s.status vblankBit true := by
    simp [writeFlag, BitVec.or_assoc]
  have hp : ((s.pend || s.nmiOpen) || s.nmiOpen) = (s.pend || s.nmiOpen) := by simp
  show ({ s with
    status := writeFlag (writeFlag s.status vblankBit true) vblankBit true
    pend := (s.pend || s.nmiOpen) || s.nmiOpen } : State) = _
  rw [hst, hp]
  rfl

/-- The entry of a tick consumes the wake-up (R195). -/
theorem enterTick_pend (s : State) : s.enterTick.pend = false := by
  obtain ⟨_, _, ht⟩ | ⟨_, ht⟩ := enterTick_cases s <;> rw [ht]

theorem enterTick_shutReq (s : State) : s.enterTick.shutReq = s.shutReq := by
  obtain ⟨_, _, ht⟩ | ⟨_, ht⟩ := enterTick_cases s <;> simp [ht]

/-- `PEND` after a step: kept, raised by `EV_VBLANK` through the gate, or cleared by a reset or a TickStart. -/
theorem step_pend {s t : State} (h : step s = .next t) :
    t.pend = s.pend ∨
    (∃ rest, s.inputs = .video .vblank :: rest ∧ t.pend = (s.pend || s.nmiOpen)) ∨
    (t.pend = false ∧ (s.FacingReset ∨ (s.fsc = .waitingForSync ∧ s.shutReq = false ∧
      (s.inputs = [] ∨ ∃ rest, s.inputs = .fsc .tickStart :: rest)))) := by
  obtain ⟨_, ⟨_, _, _, hi, hd, h⟩ | ⟨_, _, _, _, _, rfl⟩ | ⟨e, rest, hi, rfl⟩ | ⟨e, _, hi, rfl⟩ |
    ⟨_, hi, hf, _, hs, rfl⟩ | ⟨_, _, _, _, rfl⟩⟩ := step_cases h
  · obtain ⟨hp, _⟩ | ⟨rfl, hp, _⟩ := (exec_effect h).requests
    · exact .inl hp
    · exact .inr (.inr ⟨hp, .inl (facingReset_of_reinit hi (command_of_decode hd))⟩)
  · exact .inl rfl
  · cases e with
    | vblank => exact .inr (.inl ⟨rest, hi, rfl⟩)
    | spr0 b => exact .inl rfl
    | ovf b => exact .inl rfl
  · cases e with
    | shutdown => exact .inl rfl
    | reset => exact .inr (.inr ⟨rfl, .inl (facingReset_of_event hi)⟩)
  · exact .inr (.inr ⟨enterTick_pend _, .inr ⟨hf, hs, hi.symm.imp And.left (⟨_, ·⟩)⟩⟩)
  · exact .inl rfl

/-- Settles O12: the event by `step_vblank`, the setters and clearers of `PEND` by `step_pend`. -/
theorem vblankIsTheOnlyInterrupt : Obligations.VblankIsTheOnlyInterrupt := by
  refine ⟨fun s rest h => ?_, fun s t rest h hs => ?_, fun s t h hp ht => ?_, fun s t h hp ht => ?_⟩
  · have bits := getLsbD_writeFlag s.status 7 true
    refine ⟨_, bits 7, fun k hk => (bits k).trans (if_neg hk), ?_⟩
    have hpend : (s.pend || s.nmiOpen) =
        if s.cfg.nmiGate = false ∨ s.ctrl1.getLsbD s.cfg.nmiBit = true then true else s.pend := by
      simp only [← nmiOpen_iff]
      cases s.nmiOpen <;> simp
    rw [← hpend]
    exact step_vblank h
  · cases (step_vblank h).symm.trans hs
    have htwice := videoEvent_vblank_twice { s with inputs := rest }
    exact Eq.trans (step_vblank ⟨h.1, rfl⟩) (congrArg Host.Outcome.next htwice)
  · obtain e | ⟨rest, hi, _⟩ | ⟨e, _⟩ := step_pend h
    · exact absurd (ht.symm.trans (e.trans hp)) (by decide)
    · exact ⟨rest, hi⟩
    · exact absurd (ht.symm.trans e) (by decide)
  · obtain e | ⟨_, _, e⟩ | ⟨_, hc⟩ := step_pend h
    · exact absurd (hp.symm.trans (e.symm.trans ht)) (by decide)
    · rw [hp, Bool.true_or] at e
      exact absurd (e.symm.trans ht) (by decide)
    · exact hc

/-- `SHUT_REQ` after a step: kept, set by `EV_SHUTDOWN`, or cleared by a reset. -/
theorem step_shutReq {s t : State} (h : step s = .next t) :
    t.shutReq = s.shutReq ∨
    (∃ rest, s.inputs = .supervisor .shutdown :: rest ∧ t.shutReq = true) ∨
    (s.FacingReset ∧ t.shutReq = false) := by
  obtain ⟨_, ⟨_, _, _, hi, hd, h⟩ | ⟨_, _, _, _, _, rfl⟩ | ⟨e, _, _, rfl⟩ | ⟨e, rest, hi, rfl⟩ |
    ⟨_, _, _, _, _, rfl⟩ | ⟨_, _, _, _, rfl⟩⟩ := step_cases h
  · obtain ⟨_, hs⟩ | ⟨rfl, _, hs⟩ := (exec_effect h).requests
    · exact .inl hs
    · exact .inr (.inr ⟨facingReset_of_reinit hi (command_of_decode hd), hs⟩)
  · exact .inl rfl
  · cases e <;> exact .inl rfl
  · cases e with
    | shutdown => exact .inr (.inl ⟨rest, hi, rfl⟩)
    | reset => exact .inr (.inr ⟨facingReset_of_event hi, rfl⟩)
  · exact .inl (enterTick_shutReq _)
  · exact .inl rfl

/-- A running tick is never stopped: FSC reaches `Stopped` from `WaitingForSync` only (R158, R196). -/
theorem step_not_stopped_of_tick {s t : State} (h : step s = .next t) (hf : s.fsc = .runningTick) :
    t.fsc ≠ .stopped := by
  intro ht
  have hne : t.fsc ≠ s.fsc := by rw [ht, hf]; decide
  obtain ⟨hs, _⟩ | ⟨_, ht', _⟩ | ⟨hs, _⟩ | ⟨ht', _⟩ := fscMovesOnlyAlongItsTable s t h hne
  · exact absurd (hf.symm.trans hs) (by decide)
  · exact absurd (ht.symm.trans ht') (by decide)
  · exact absurd (hf.symm.trans hs) (by decide)
  · exact absurd (ht.symm.trans ht') (by decide)

/-- Settles O13: the event by `step_shutdown`, the setters and clearers of `SHUT_REQ` by `step_shutReq`. -/
theorem shutdownRequestIsSticky : Obligations.ShutdownRequestIsSticky := by
  refine ⟨fun s rest => step_shutdown, fun s t h hs ht => ?_, fun s t h hs ht => ?_,
    fun s t => step_not_stopped_of_tick, rfl⟩
  · obtain e | ⟨rest, hi, _⟩ | ⟨_, e⟩ := step_shutReq h
    · exact absurd (ht.symm.trans (e.trans hs)) (by decide)
    · exact ⟨rest, hi⟩
    · exact absurd (ht.symm.trans e) (by decide)
  · obtain e | ⟨_, _, e⟩ | ⟨hr, _⟩ := step_shutReq h
    · exact absurd (hs.symm.trans (e.symm.trans ht)) (by decide)
    · exact absurd (e.symm.trans ht) (by decide)
    · exact hr

end Sys2Proof.Machine
end

section
/-! The steps of the controller (R195, R196): TickStart and Stop exist exactly where they are enabled (O18), what an enabled
TickStart does (O16), and the steps with no input left (O20). -/

namespace Sys2Proof.Machine

/-- A `TickStart` that is not enabled is refused by name (R195; log entry 3). -/
theorem step_tickStart_refused {s : State} {rest : List Action} (h : s.Facing (.fsc .tickStart) rest)
    (hn : ¬ (s.fsc = .waitingForSync ∧ s.pend = true ∧ s.shutReq = false)) :
    step s = .refused (.stepNotEnabled .tickStart) := by
  rw [step_facing h]
  exact if_neg (mt (tickStartEnabled_iff _).1 hn)

/-- An enabled `Stop` moves FSC to `Stopped` (R196). -/
theorem step_stop {s : State} {rest : List Action} (h : s.Facing (.fsc .stop) rest)
    (he : s.fsc = .waitingForSync ∧ s.shutReq = true) : step s = .next { s with inputs := rest, fsc := .stopped } := by
  rw [step_facing h]
  exact if_pos ((stopEnabled_iff _).2 he)

/-- A `Stop` that is not enabled is refused by name (R196; log entry 3). -/
theorem step_stop_refused {s : State} {rest : List Action} (h : s.Facing (.fsc .stop) rest)
    (hn : ¬ (s.fsc = .waitingForSync ∧ s.shutReq = true)) : step s = .refused (.stepNotEnabled .stop) := by
  rw [step_facing h]
  exact if_neg (mt (stopEnabled_iff _).1 hn)

/-- A `TickStart` that was taken was enabled (R195). -/
theorem enabled_of_step_tickStart {s t : State} {rest : List Action} (h : s.Facing (.fsc .tickStart) rest)
    (ht : step s = .next t) : s.fsc = .waitingForSync ∧ s.pend = true ∧ s.shutReq = false := by
  by_contra hn
  cases (step_tickStart_refused h hn).symm.trans ht

/-- Settles O18: each of the two steps is taken where it is enabled and refused where it is not. -/
theorem fscStepsExistOnlyWhenEnabled : Obligations.FscStepsExistOnlyWhenEnabled := fun _ _ =>
  ⟨fun h => ⟨⟨fun ⟨_, ht⟩ => enabled_of_step_tickStart h ht, fun ⟨hf, hp, hs⟩ => ⟨_, step_tickStart h hf hp hs⟩⟩,
      step_tickStart_refused h⟩,
    fun h => ⟨step_stop h, step_stop_refused h⟩⟩

/-- Settles O16: the step by `step_tickStart_of_legal`, and `flush_frame` says what the flush leaves. -/
theorem tickStartFlushesAndCallsBack : Obligations.TickStartFlushesAndCallsBack := by
  intro s rest h hf hp hs hl
  have hstep := step_tickStart_of_legal h hf hp hs (hl.imp_right (flushLegal_iff s).2)
  have hframe := congrArg (fun u : State => { u with inputs := rest, pend := false, fsc := .runningTick }) (flush_frame s)
  exact ⟨_, hstep, hframe, vRead_congr rfl rfl rfl rfl, rfl⟩

/-- A step with no input left is `idle` (log entry 4). -/
theorem step_of_no_input {s : State} (hv : s.cfg.Valid) (hi : s.inputs = []) : step s = idle s := by
  simp only [step, if_pos hv, takeInput, hi]

theorem idle_of_tickStart {s : State} (hf : s.fsc = .waitingForSync) (hp : s.pend = true) (hs : s.shutReq = false) :
    idle s = .next s.enterTick :=
  if_pos ((tickStartEnabled_iff s).2 ⟨hf, hp, hs⟩)

theorem idle_of_stop {s : State} (hf : s.fsc = .waitingForSync) (hs : s.shutReq = true) : idle s = .next s.stop := by
  have hn : ¬ s.tickStartEnabled = true := by simp [tickStartEnabled_iff, hs]
  exact (if_neg hn).trans (if_pos ((stopEnabled_iff s).2 ⟨hf, hs⟩))

/-- With no step of the FSC enabled, `idle` names the wait (R207). -/
theorem idle_of_wait {s : State} (h : s.fsc = .waitingForSync → s.pend = false ∧ s.shutReq = false) :
    idle s = .fault (waitReason s.fsc) := by
  have hn : ¬ s.tickStartEnabled = true := fun ht => by
    obtain ⟨hf, hp, _⟩ := (tickStartEnabled_iff s).1 ht
    exact Bool.false_ne_true ((h hf).1.symm.trans hp)
  have hn' : ¬ s.stopEnabled = true := fun ht => by
    obtain ⟨hf, hs⟩ := (stopEnabled_iff s).1 ht
    exact Bool.false_ne_true ((h hf).2.symm.trans hs)
  exact (if_neg hn).trans (if_neg hn')

/-- Settles O20: `idle` in its cases, and the enabled steps are those of `step_stop` and `step_tickStart`. -/
theorem quiescentStatesStopByName : Obligations.QuiescentStatesStopByName := by
  intro s hv hi
  have hidle := step_of_no_input hv hi
  have hs : ({ s with inputs := [] } : State) = s := by rw [← hi]
  have waits {f : Fsc} (hf : s.fsc = f) (h : f = .waitingForSync → s.pend = false ∧ s.shutReq = false) :
      step s = .fault (waitReason f) := by
    rw [hidle, idle_of_wait (hf ▸ h), hf]
  refine ⟨fun hf hq => ?_, fun hf hq hp => ?_, fun hf hq hp => waits hf fun _ => ⟨hp, hq⟩,
    fun hf => waits hf nofun, fun hf => waits hf nofun⟩
  · have hstop : step s = .next s.stop := hidle.trans (idle_of_stop hf hq)
    have hask : step { s with inputs := [.fsc .stop] } = .next ({ s with inputs := [] } : State).stop :=
      step_stop ⟨hv, rfl⟩ ⟨hf, hq⟩
    exact ⟨hstop, by rw [hstop, hask, hs]⟩
  · have htick : step s = .next s.enterTick := hidle.trans (idle_of_tickStart hf hp hq)
    have hask : step { s with inputs := [.fsc .tickStart] } = .next ({ s with inputs := [] } : State).enterTick :=
      step_tickStart ⟨hv, rfl⟩ hf hp hq
    exact ⟨htick, by rw [htick, hask, hs]⟩

end Sys2Proof.Machine
end

section
/-! Violations (R181, R182) are precise (O38): a command raises one and does nothing else, or it answers with another code.
So a running tick goes on for as long as no response shows a violation (O58). -/

namespace Sys2Proof.Machine

/-- The bit of ERR that a violation sets, by its number (R181). -/
theorem violationBit_eq (v : Violation) : violationBit v = 1#8 <<< ((violationNumber v).toNat - 1) := by
  cases v <;> decide

/-- `raise` written out (R182). -/
theorem raise_eq (s : State) (v : Violation) : s.raise v = { s with
    err := s.err ||| 1#8 <<< ((violationNumber v).toNat - 1), lastErr := violationNumber v,
    fsc := if s.fsc = .runningTick then .waitingForSync else s.fsc } := by
  rw [State.raise, violationBit_eq, abandonTick_eq]

/-- A response with the number of a violation that a command can raise (R96, R181). -/
def Resp.ShowsViolation (r : Resp) : Prop := r.code = 2#4 ∨ r.code = 3#4 ∨ r.code = 4#4

/-- A command raises a violation and answers with its number, or it answers with another code, and then FSC is moved by
`CBRET` and `REINIT` only. -/
theorem CommandEffect.raises_or_answers {s t : State} {i : Instr} (h : CommandEffect s i t) :
    (∃ v, Resp.ShowsViolation ⟨violationNumber v, 0#32⟩ ∧ t = (s.raise v).respond (violationNumber v) 0#32) ∨
    (∃ r, t.resps = r :: s.resps ∧ ¬ r.ShowsViolation ∧ (t.fsc = s.fsc ∨ (∃ d, i = .cbret d) ∨ i = .reinit)) := by
  have quiet (d : RespData) : ¬ Resp.ShowsViolation ⟨0#4, d⟩ := by simp [Resp.ShowsViolation]
  cases h with
  | enqFull => exact .inl ⟨.queueOverflow, .inr (.inl rfl), rfl⟩
  | tickFailed => exact .inl ⟨.callbackFailed, .inr (.inr rfl), rfl⟩
  | sprsetRange => exact .inl ⟨.spriteIndexRange, .inl rfl, rfl⟩
  | sprgetRange => exact .inl ⟨.spriteIndexRange, .inl rfl, rfl⟩
  | noTick d => exact .inr ⟨⟨5#4, 0#32⟩, rfl, by simp [Resp.ShowsViolation], .inl rfl⟩
  | tickReturn d => exact .inr ⟨_, rfl, quiet _, .inr (.inl ⟨d, rfl⟩)⟩
  | tickReturnDark d => exact .inr ⟨_, rfl, quiet _, .inr (.inl ⟨d, rfl⟩)⟩
  | reinit => exact .inr ⟨_, rfl, quiet _, .inr (.inr rfl)⟩
  | wrdata d => exact .inr ⟨⟨0#4, 0#32⟩, by simp, quiet _, .inl (by simp)⟩
  | _ => exact .inr ⟨_, rfl, quiet _, .inl rfl⟩

/-- Settles O38: `raise` by `raise_eq`, a command by `CommandEffect.raises_or_answers`, and a TickStart that does not enter
the tick is the refused flush of `enterTick_cases`. -/
theorem violationsArePrecise : Obligations.ViolationsArePrecise := by
  refine ⟨raise_eq, fun i s t c v rs h hr hc => ?_, fun s t rest hs ht hne => ?_⟩
  · obtain ⟨k, _, rfl⟩ | ⟨r, hr', hq, _⟩ := (exec_effect h).raises_or_answers
    · obtain ⟨⟨rfl, _⟩, _⟩ : (violationNumber k = c ∧ 0#32 = v) ∧ s.resps = rs := by simpa using hr
      rw [raise_eq]
      rfl
    · obtain ⟨rfl, _⟩ := List.cons_eq_cons.1 (hr'.symm.trans hr)
      exact absurd hc hq
  · obtain ⟨hf, hp, hq⟩ := enabled_of_step_tickStart hs ht
    cases (step_tickStart hs hf hp hq).symm.trans ht
    obtain ⟨_, _, he⟩ | ⟨_, he⟩ := enterTick_cases { s with inputs := rest }
    · rw [he, hf]
      rfl
    · exact absurd (by rw [he]) hne

/-- A step consumes the input it faces. -/
theorem step_inputs {s t : State} {a : Action} {rest : List Action} (h : step s = .next t)
    (hi : s.inputs = a :: rest) : t.inputs = rest := by
  obtain ⟨hn, _⟩ | ⟨b, hb, _⟩ := step_w h
  · exact absurd (hn.symm.trans hi) nofun
  · exact (List.cons_eq_cons.1 (hb.symm.trans hi)).2

/-- A step keeps the responses already returned (R96). -/
theorem step_resps {s t : State} (h : step s = .next t) : s.resps <:+ t.resps := by
  obtain ⟨_, ⟨_, _, _, _, _, h⟩ | ⟨_, _, _, _, _, rfl⟩ | ⟨e, _, _, rfl⟩ | ⟨e, _, _, rfl⟩ |
    ⟨rest, _, _, _, _, rfl⟩ | ⟨_, _, _, _, rfl⟩⟩ := step_cases h
  · obtain ⟨_, _, hr, _⟩ := (exec_effect h).answers
    exact hr ▸ List.suffix_cons _ _
  · exact List.suffix_cons _ _
  · cases e <;> exact List.suffix_rfl
  · cases e <;> exact List.suffix_rfl
  · obtain ⟨_, _, ht⟩ | ⟨_, ht⟩ := enterTick_cases { s with inputs := rest } <;> simp [ht]
  · exact List.suffix_rfl

theorem run_resps {n : Nat} {s t : State} (h : core.run n s = .next t) : s.resps <:+ t.resps := by
  induction n generalizing s with
  | zero => cases h; exact List.suffix_rfl
  | succ n ih =>
    obtain ⟨u, hu, hr⟩ := next_of_run core h
    exact (step_resps hu).trans (ih hr)

/-- A step in a running tick, no `CBRET` and no reset, whose responses show no violation: the tick goes on, and the step
was none of the FSC. -/
theorem step_tick_goes_on {s t : State} {a : Action} {rest : List Action} {rs : List Resp}
    (hf : s.fsc = .runningTick) (hi : s.inputs = a :: rest) (hr : a.resets = false)
    (hc : ∀ d, a.command ≠ some (.cbret d)) (h : step s = .next t) (ht : t.resps = rs ++ s.resps)
    (hq : ∀ r ∈ rs, ¬ r.ShowsViolation) : t.fsc = .runningTick ∧ ∀ k, a ≠ .fsc k := by
  obtain ⟨_, ⟨w, _, i, hi', hd, h⟩ | ⟨_, _, _, hi', _, rfl⟩ | ⟨e, _, hi', rfl⟩ | ⟨e, _, hi', rfl⟩ |
    ⟨_, _, hf', _⟩ | ⟨_, _, hf', _⟩⟩ := step_cases h
  · cases hi.symm.trans hi'
    have hcmd := command_of_decode hd
    refine ⟨?_, nofun⟩
    obtain ⟨v, hv, rfl⟩ | ⟨_, _, _, hfsc | ⟨d, rfl⟩ | rfl⟩ := (exec_effect h).raises_or_answers
    · have hrs : rs = [⟨violationNumber v, 0#32⟩] := List.append_cancel_right (bs := s.resps) ht.symm
      exact absurd hv (hq _ (by simp [hrs]))
    · exact hfsc.trans hf
    · exact absurd hcmd (hc d)
    · exact absurd hr (by simp [Action.resets, hcmd])
  · cases hi.symm.trans hi'
    exact ⟨hf, nofun⟩
  · cases hi.symm.trans hi'
    exact ⟨by cases e <;> exact hf, nofun⟩
  · cases hi.symm.trans hi'
    cases e with
    | shutdown => exact ⟨hf, nofun⟩
    | reset => exact absurd hr (by decide)
  · exact absurd (hf.symm.trans hf') nofun
  · exact absurd (hf.symm.trans hf') nofun

/-- Settles O58, by induction on the inputs: each step adds its responses to those of the run, and `step_tick_goes_on`. -/
theorem tickHangsWithoutReturn : Obligations.TickHangsWithoutReturn := by
  intro s t as rest rs hf hi ha h ht hq
  induction as generalizing s rs with
  | nil => cases h; exact ⟨hf, nofun⟩
  | cons a as ih =>
    obtain ⟨u, hu, hrun⟩ := next_of_run core h
    obtain ⟨now, hnow⟩ := step_resps hu
    obtain ⟨later, hlater⟩ := run_resps hrun
    obtain rfl : later ++ now = rs := List.append_cancel_right (bs := s.resps) (by
      rw [List.append_assoc, hnow, hlater, ht])
    rw [List.forall_mem_append] at hq
    obtain ⟨hqLater, hqNow⟩ := hq
    obtain ⟨⟨hr, hc⟩, ha⟩ := List.forall_mem_cons.1 ha
    have quiet : ∀ r ∈ now, ¬ r.ShowsViolation := fun r hm => by
      simpa [Resp.ShowsViolation] using hqNow r hm
    obtain ⟨hfu, hk⟩ := step_tick_goes_on hf hi hr hc hu hnow.symm quiet
    obtain ⟨hft, hks⟩ := ih u later hfu (step_inputs hu hi) ha hrun hlater.symm hqLater
    exact ⟨hft, fun k hm => (List.mem_cons.1 hm).elim (fun e => hk k e.symm) (hks k)⟩

end Sys2Proof.Machine
end

section
/-! The wait for sync (R202, R206) has no timeout (O59): a step ends it only by setting one of the two requests, and no input
but `EV_SHUTDOWN` and a vblank through the open gate does that. -/

namespace Sys2Proof.Machine

/-- Every step keeps the parameter record (R4). -/
theorem step_cfg {s t : State} (h : step s = .next t) : t.cfg = s.cfg := by
  obtain e | ⟨_, _, _, _, _, he⟩ | ⟨_, _, e⟩ | ⟨_, e⟩ := step_held h
  · exact view_eq State.cfg (fun _ => rfl) e
  · exact he.cfg_eq
  · exact (view_eq State.cfg (fun _ => rfl) e).trans (flush_cfg s)
  · exact (view_eq State.cfg (fun _ => rfl) e).trans (resetBlock_cfg s)

/-- A step taken in the wait leaves FSC in `WaitingForSync`: no step of the FSC is enabled there (R206). -/
theorem step_fsc_of_wait {s t : State} (hw : s.awaitsSync = true) (h : step s = .next t) : t.fsc = .waitingForSync := by
  obtain ⟨hf, hp, hs⟩ := (awaitsSync_iff s).1 hw
  by_contra hne
  obtain ⟨_, _, hp', _⟩ | ⟨hf', _⟩ | ⟨_, _, hs', _⟩ | ⟨hf', _⟩ :=
    fscMovesOnlyAlongItsTable s t h fun e => hne (e.trans hf)
  · exact Bool.false_ne_true (hp.symm.trans hp')
  · exact absurd (hf.symm.trans hf') nofun
  · exact Bool.false_ne_true (hs.symm.trans hs')
  · exact hne hf'

/-- In `WaitingForSync` the wait is over when one of the two requests is there (R202). -/
theorem wait_over_iff {s : State} (hf : s.fsc = .waitingForSync) :
    s.awaitsSync = false ↔ s.pend = true ∨ s.shutReq = true := by
  rw [← Bool.not_eq_true, awaitsSync_iff]
  cases s.pend <;> cases s.shutReq <;> simp [hf]

/-- What ends the wait: `EV_SHUTDOWN`, or `EV_VBLANK` through the open gate (R190, R194, R202). -/
def State.FacesWakeup (s : State) : Prop :=
  ∃ rest, s.inputs = .supervisor .shutdown :: rest ∨
    (s.inputs = .video .vblank :: rest ∧ (s.cfg.nmiGate = false ∨ s.ctrl1.getLsbD s.cfg.nmiBit = true))

/-- A step taken in the wait ends it exactly when it is one of the two. -/
theorem step_ends_wait_iff {s t : State} (hw : s.awaitsSync = true) (h : step s = .next t) :
    t.awaitsSync = false ↔ s.FacesWakeup := by
  obtain ⟨_, hp, hs⟩ := (awaitsSync_iff s).1 hw
  have hv := (step_cases h).1
  rw [wait_over_iff (step_fsc_of_wait hw h)]
  constructor
  · rintro (hpt | hst)
    · obtain e | ⟨rest, hi, e⟩ | ⟨e, _⟩ := step_pend h
      · exact absurd (hp.symm.trans (e.symm.trans hpt)) Bool.false_ne_true
      · rw [hp, Bool.false_or] at e
        exact ⟨rest, .inr ⟨hi, (nmiOpen_iff s).1 (e.symm.trans hpt)⟩⟩
      · exact absurd (e.symm.trans hpt) Bool.false_ne_true
    · obtain e | ⟨rest, hi, _⟩ | ⟨_, e⟩ := step_shutReq h
      · exact absurd (hs.symm.trans (e.symm.trans hst)) Bool.false_ne_true
      · exact ⟨rest, .inl hi⟩
      · exact absurd (e.symm.trans hst) Bool.false_ne_true
  · rintro ⟨rest, hi | ⟨hi, hopen⟩⟩
    · cases (step_shutdown ⟨hv, hi⟩).symm.trans h
      exact .inr rfl
    · cases (step_vblank ⟨hv, hi⟩).symm.trans h
      exact .inl (by simp [(nmiOpen_iff s).2 hopen])

/-- `CTRL1` after a step outside a tick: kept, cleared by a reset, or what a `WRCTRL1` writes (R22). -/
theorem step_ctrl1_of_no_tick {s t : State} (hf : s.fsc ≠ .runningTick) (h : step s = .next t) :
    t.ctrl1 = s.ctrl1 ∨ t.ctrl1 = 0#8 ∨ ∃ a rest, s.inputs = a :: rest ∧ a.command = some (.wrctrl1 t.ctrl1) := by
  obtain e | ⟨a, rest, i, hi, hc, he⟩ | ⟨_, _, e⟩ | ⟨_, e⟩ := step_held h
  · exact .inl (view_eq State.ctrl1 (fun _ => rfl) e)
  · cases he with
    | wrctrl1 d => exact .inr (.inr ⟨a, rest, hi, hc⟩)
    | tickReturn _ hf' => exact absurd hf' hf
    | tickReturnDark _ hf' => exact absurd hf' hf
    | reinit => exact .inr (.inl rfl)
    | _ => exact .inl (by simp)
  · exact .inl ((view_eq State.ctrl1 (fun _ => rfl) e).trans (flush_ctrl1 s))
  · exact .inr (.inl (view_eq State.ctrl1 (fun _ => rfl) e))

/-- No vblank among `as` wakes the controller: there is none, or the gate is shut and no `WRCTRL1` opens it (R190). -/
def State.VblanksMasked (s : State) (as : List Action) : Prop :=
  (∀ a ∈ as, a ≠ .video .vblank) ∨ (s.cfg.nmiGate = true ∧ s.ctrl1.getLsbD s.cfg.nmiBit = false ∧
    ∀ a ∈ as, ∀ d, a.command = some (.wrctrl1 d) → d.getLsbD s.cfg.nmiBit = false)

/-- A step taken in the wait leaves the vblanks to come masked. -/
theorem State.VblanksMasked.step {s t : State} {a : Action} {as rest : List Action} (hm : s.VblanksMasked (a :: as))
    (hf : s.fsc = .waitingForSync) (hi : s.inputs = a :: rest) (h : step s = .next t) : t.VblanksMasked as := by
  obtain hm | ⟨hg, hbit, hm⟩ := hm
  · exact .inl (List.forall_mem_cons.1 hm).2
  · obtain ⟨hma, hm⟩ := List.forall_mem_cons.1 hm
    refine .inr ?_
    rw [step_cfg h]
    refine ⟨hg, ?_, hm⟩
    obtain e | e | ⟨b, _, hb, hc⟩ := step_ctrl1_of_no_tick (by rw [hf]; nofun) h
    · rwa [e]
    · rw [e, BitVec.getLsbD_zero]
    · obtain ⟨rfl, _⟩ := List.cons_eq_cons.1 (hi.symm.trans hb)
      exact hma _ hc

/-- A state with its vblanks masked and no shutdown in front faces nothing that ends the wait. -/
theorem State.VblanksMasked.not_facesWakeup {s : State} {a : Action} {as rest : List Action}
    (hm : s.VblanksMasked (a :: as)) (ha : a ≠ .supervisor .shutdown) (hi : s.inputs = a :: rest) :
    ¬ s.FacesWakeup := by
  rintro ⟨_, hi' | ⟨hi', hopen⟩⟩
  · exact ha (List.cons_eq_cons.1 (hi.symm.trans hi')).1
  · obtain hm | ⟨hg, hbit, _⟩ := hm
    · exact hm a List.mem_cons_self (List.cons_eq_cons.1 (hi.symm.trans hi')).1
    · obtain hopen | hopen := hopen
      · exact Bool.false_ne_true (hopen.symm.trans hg)
      · exact Bool.false_ne_true (hbit.symm.trans hopen)

/-- A run over inputs that do not wake the controller leaves the block in the wait. -/
theorem run_awaitsSync {s t : State} {as rest : List Action} (hw : s.awaitsSync = true) (hi : s.inputs = as ++ rest)
    (ha : ∀ a ∈ as, a ≠ .supervisor .shutdown) (hm : s.VblanksMasked as) (h : core.run as.length s = .next t) :
    t.awaitsSync = true := by
  induction as generalizing s with
  | nil => cases h; exact hw
  | cons a as ih =>
    obtain ⟨u, hu, hrun⟩ := next_of_run core h
    obtain ⟨haa, ha⟩ := List.forall_mem_cons.1 ha
    have hwu : u.awaitsSync = true := by
      rw [← Bool.not_eq_false, step_ends_wait_iff hw hu]
      exact hm.not_facesWakeup haa hi
    exact ih hwu (step_inputs hu hi) ha (hm.step ((awaitsSync_iff s).1 hw).1 hi hu) hrun

/-- Settles O59: one step by `step_ends_wait_iff`; a run completes by O44 and stays in the wait by `run_awaitsSync`. -/
theorem waitForSyncHasNoTimeout : Obligations.WaitForSyncHasNoTimeout := by
  refine fun s hv hw => ⟨fun t h => ⟨step_fsc_of_wait hw h, step_ends_wait_iff hw h⟩, fun as rest hi ha hm => ?_⟩
  obtain ⟨t, ht, hti, _⟩ := runsOfCommandsAndEventsComplete s as rest hv hi fun a h => (ha a h).2
  exact ⟨t, ht, run_awaitsSync hw hi (fun a h => (ha a h).1) hm ht, hti⟩

end Sys2Proof.Machine
end

section
/-! The start-up sequence (R222, O56) and the callback that a violation ends (R236, O57). -/

namespace Sys2Proof.Machine

/-- The block after `SPRCLR`, `SETNCTRL1 v`, `WRCTRL1 v` and a vblank (R222): the sprites hidden, both copies of CTRL1
written, and `PEND` raised through the gate of R190 as the new CTRL1 sets it. -/
def State.afterStartUp (s : State) (v : Byte) (rest : List Action) : State :=
  { s.hideSprites with
    ctrl1 := v
    nextCtrl1 := v
    status := writeFlag s.status vblankBit true
    pend := s.pend || (!s.cfg.nmiGate || v.getLsbD s.cfg.nmiBit)
    inputs := rest
    resps := ⟨0#4, 0#32⟩ :: ⟨0#4, 0#32⟩ :: ⟨0#4, 0#32⟩ :: s.resps }

/-- A run over the three commands of the start-up sequence and a vblank goes on from `State.afterStartUp`. -/
theorem run_startUp {s : State} {v : Byte} {rest : List Action} (n : Nat) (hv : s.cfg.Valid)
    (hi : s.inputs = issue .sprclr :: issue (.setnctrl1 v) :: issue (.wrctrl1 v) :: .video .vblank :: rest) :
    core.run (n + 4) s = core.run n (s.afterStartUp v rest) := by
  refine .trans (run_issue (i := .sprclr) hv hi rfl) ?_
  refine .trans (run_issue (i := .setnctrl1 v) hv rfl rfl) ?_
  refine .trans (run_issue (i := .wrctrl1 v) hv rfl rfl) ?_
  exact run_of_next core (step_vblank ⟨hv, rfl⟩)

/-- The start-up sequence hides every slot but slot 0 (R171). -/
theorem sprByte_afterStartUp (s : State) (v : Byte) (rest : List Action) {j : Nat} (h1 : 1 ≤ j)
    (hj : j < s.cfg.nsprites) : (s.afterStartUp v rest).sprByte j .y = s.cfg.offscreenY :=
  (sprByte_of_sprclr (s := s) rfl j .y).trans (if_pos ⟨h1, hj, rfl⟩)

/-- Settles O56: the run reaches `State.afterStartUp`, whose `PEND` is the NMI bit of `v` while the gate is on; with the
queue still empty, the tick that starts from there has nothing to flush. -/
theorem bootSequenceStartsTicks : Obligations.BootSequenceStartsTicks := by
  intro c v hv s
  have hrun : core.run 5 s = core.run 1 (s.afterStartUp v [.fsc .tickStart]) := run_startUp 1 hv rfl
  have hfacing : (s.afterStartUp v [.fsc .tickStart]).Facing (.fsc .tickStart) [] := ⟨hv, rfl⟩
  have hpend : (s.afterStartUp v [.fsc .tickStart]).pend = (!c.nmiGate || v.getLsbD c.nmiBit) := Bool.false_or _
  rw [hrun]
  refine ⟨fun hbit => ?_, fun hbit hgate => ?_⟩
  · rw [hbit, Bool.or_true] at hpend
    have htick := step_tickStart_of_legal hfacing rfl hpend rfl (.inl rfl)
    rw [flush_of_empty rfl] at htick
    exact ⟨_, run_of_next core htick, rfl, rfl, fun _ => sprByte_afterStartUp s v [.fsc .tickStart]⟩
  · rw [hbit, hgate, Bool.or_false, Bool.not_true] at hpend
    refine run_of_refused core (step_tickStart_refused hfacing ?_)
    rintro ⟨_, hp, _⟩
    exact Bool.false_ne_true (hpend.symm.trans hp)

/-- A command that raises a violation in a tick abandons it, so the `CBRET` that follows finds no tick (R154, R182). -/
theorem run_violation_cbret {s : State} {i : Instr} {cv : Violation} {e : Byte} {rest : List Action} (hv : s.cfg.Valid)
    (hf : s.fsc = .runningTick) (hi : s.inputs = issue i :: issue (.cbret e) :: rest)
    (hx : ∀ u : State, u.cfg = s.cfg → u.queue = s.queue →
      exec i u = .next ((u.raise cv).respond (violationNumber cv) 0#32)) :
    core.run 2 s = .next { s with
      inputs := rest, fsc := .waitingForSync, err := s.err ||| violationBit cv, lastErr := violationNumber cv,
      resps := ⟨5#4, 0#32⟩ :: ⟨violationNumber cv, 0#32⟩ :: s.resps } := by
  rw [run_issue hv hi (hx _ rfl rfl), State.raise, hf]
  exact run_issue hv rfl (exec_cbret_noTick e nofun)

/-- Settles O57: each of the three commands raises its violation, and `run_violation_cbret` says what follows. -/
theorem callbackEndsAtItsFirstViolation : Obligations.CallbackEndsAtItsFirstViolation := by
  rintro s i k bit e rest hv hf (⟨⟨a, d, rfl⟩, hq, rfl, rfl⟩ | ⟨⟨idx, x, y, u, v, rfl, hidx⟩, rfl, rfl⟩ |
    ⟨⟨idx, rfl, hidx⟩, rfl, rfl⟩) hi
  · exact run_violation_cbret (cv := .queueOverflow) hv hf hi fun t hc hq' => exec_enq_full a d (by rw [hc, hq', hq])
  · exact run_violation_cbret (cv := .spriteIndexRange) hv hf hi fun t hc _ =>
      exec_sprset_outOfRange x y u v (by rwa [hc])
  · exact run_violation_cbret (cv := .spriteIndexRange) hv hf hi fun t hc _ => exec_sprget_outOfRange (by rwa [hc])

end Sys2Proof.Machine
end
